-- ==== Sys2Proof/Word.lean ====
section
/-! DEFINITION. The byte, the part's fixed sizes and the two plainest arithmetic helpers.

The part counts in whole numbers with stated ranges (00_scope.md, 'Ranges'); only bytes on a wire, stored
descriptor numbers, the round serial and sets of teams or classes are bits. -/

namespace Sys2Proof

/-- One byte on a wire. -/
abbrev Byte := BitVec 8

/-- The number of teams, console lines and team panels (00_scope.md, 'Teams'). -/
abbrev teamCount : Nat := 24

/-- The round clock never exceeds this value (R25). -/
abbrev clockMax : Nat := 1048575

/-- One more, held at `top` once it is reached ('held at' in R23, R71, R116, R132, R191). -/
abbrev bump (top n : Nat) : Nat := min top (n + 1)

/-- A value limited to a range (R138, R161, R174). -/
abbrev clampInt (lo hi x : Int) : Int := max lo (min hi x)

end Sys2Proof
end

