-- ==== Sys2Proof/Syntax.lean ====
section
/-! DEFINITION. The steps of the part: one constructor of `Instr` for each row of spec/opcode_table.json, in the
table's order. A desk command carries the values of its payload as the wire carries them (R196), so that a value
outside its range, which the command's rule refuses, is a term like any other. -/

namespace Sys2Proof

/-- A command frame on the control link, less its start byte and its length byte L (R183): L is one more than the
length of the payload. -/
structure LinkFrame where
  kind : Byte
  payload : List Byte
  check : Byte
  deriving DecidableEq, Repr

/-- A pad frame, less its sync byte (R68, R196): byte 5 holds the sequence in bits 0..3 and battery low in bit 7. -/
structure PadFrame where
  receiver : Byte
  handset : BitVec 16
  key : Byte
  sequence : Byte
  age : Byte
  check : Byte
  deriving DecidableEq, Repr

/-- The descriptor payload of WRITE ROUND, field by field (R196): enumerated fields as their code bytes. -/
structure DescriptorPayload where
  kind : Byte
  link : Byte
  basePoints : BitVec 16
  penalty : BitVec 16
  bonusMax : Byte
  bonusWindow : BitVec 16
  timeLimit : BitVec 16
  readingLimit : Byte
  answerWindow : Byte
  settleWindow : Byte
  wrongLimit : Byte
  falseStart : Byte
  rebound : Byte
  timeoutWrong : Byte
  streakScoring : Byte
  options : Byte
  key : Byte
  answerLock : Byte
  teamSet : BitVec 24
  deriving DecidableEq, Repr

/-- How a reply on the return line begins: its start byte and its address (R196). -/
structure ReplyHead where
  start : Byte
  address : Byte
  deriving DecidableEq, Repr

/-- The steps of the part: the rows of spec/opcode_table.json. -/
inductive Instr where
  /-- Power-on or the reset pin (R19, R49, R66, R90, R113, R115, R153, R164, R180, R195). -/
  | hardReset
  /-- A byte received in LISTEN (R181). -/
  | modeByte (byte : Byte)
  /-- A command frame reaches its check byte (R183, R184). -/
  | commandFrameComplete (frame : LinkFrame)
  /-- A frame's length byte arrives and is 0 or above 63 (R183). -/
  | linkFrameAbandoned (length : Byte)
  /-- More than 20 ms pass inside a frame (R183). -/
  | linkFrameGap
  /-- The front frame of the buffer fails a check of R185 and is answered with that check's code. -/
  | unknownKind (frame : LinkFrame)
  | identify
  | setRate (rate : Byte)
  | statusGet
  | setNoticeMask (classes : BitVec 16)
  | holdReports (time : BitVec 16)
  | fetchReports (count : Byte)
  | showReset
  /-- The show reset itself, after the SHOW RESET reply (R194). -/
  | showResetExecute
  | writeRound (slot : Byte) (descriptor : DescriptorPayload)
  | readRound (slot : Byte)
  | handOver (slot : Byte)
  | takeBack (slot : Byte)
  | setPointer (slot : Byte)
  | go
  | startRound
  | openRound
  | closeRound
  | judge (verdict : Byte)
  | revealKey (option : Byte)
  | pause
  | resume
  | abandon
  | readingTimerExpiry
  | roundTimerSecond
  | roundTimerExpiry
  | answerTimerBlink
  | answerTimerExpiry
  | roundClockHold
  | settleDeadlineReached
  | lineRunStart (line : Nat)
  | lineReady (line : Nat)
  | linePressAccepted (line : Nat)
  | lineReleaseAccepted (line : Nat)
  | stuck (line : Nat)
  | cleared (line : Nat)
  | lampBlinkTimerExpiry
  | setLine (line enabled polarity filter : Byte)
  | readLine (line : Byte)
  | padFrameArrival (frame : PadFrame)
  | padRunt
  | takeComplete
  | setReceiver (receiver enabled offset : Byte)
  | readReceiver (receiver : Byte)
  | readIntake
  | enroll (handset : BitVec 16) (team seat : Byte)
  | withdraw (handset : BitVec 16)
  | move (handset : BitVec 16) (team seat : Byte)
  | clearRoster
  | setGuestMap (positions : BitVec 64)
  | readGuestMap
  | readHandset (handset : BitVec 16)
  | readRoster (position : Byte)
  | readAnswers (view argument : Byte)
  | readFloor
  | setTeam (team nameLength : Byte) (name : List Byte) (playing house : Byte)
  | adjustScore (team : Byte) (delta : BitVec 16)
  | setScore (team : Byte) (target : BitVec 16)
  | setTieDisplay (option : Byte)
  | freeze
  | unfreeze
  | readStandings (view argument : Byte)
  | setHouse (house nameLength : Byte) (name : List Byte) (shown : Byte) (total : BitVec 24) (games : Byte)
  | setPlacePoints (points : List Byte)
  | commitGame (method : Byte)
  | readHouses (view : Byte)
  | holdBoards
  | revealBoards (interval : Byte)
  | revealStep
  | releaseBoards
  | checkPanels
  | setLeaderboardMode (mode : Byte)
  | readBoard (view argument : Byte)
  | winnerBlinkEnd (team : Nat)
  | refreshSendBegin
  | refreshSendComplete
  | pollBegin
  /-- A reply on the return line: its start byte and address, its status and its check byte (R170, R196). -/
  | panelPollReply (head : ReplyHead) (status check : Byte)
  | panelPollTimeout
  | replySendBegin
  | replySent
  | reportSendBegin
  | reportSent
  | reportHoldExpiry
  /-- One 1 ms tick; bit n − 1 is the level of console line n as the tick samples it, 1 for high (R25, R52). -/
  | tick (levels : BitVec 24)
  | linkByteReceived (byte : Byte)
  | padByteReceived (byte : Byte)
  deriving DecidableEq, Repr

end Sys2Proof
end

