-- ==== Sys2Proof/WellFormed.lean ====
section
/-! DEFINITION. Which terms of `Instr` stand for a step that can reach the part: a name field has its ten bytes, the
place points are eight, a frame carries at most 62 payload bytes (R183: L is 1..63), and a line or team number that
the part itself names is 1..24. A command value outside its range is well formed: the command's rule refuses it. -/

namespace Sys2Proof

/-- L, one more than the payload length, is 1..63 (R183). -/
def LinkFrame.wellFormed (f : LinkFrame) : Bool := f.payload.length ≤ 62

/-- A console line or team panel of the part (R51, R172). -/
def isTeamNumber (n : Nat) : Bool := 1 ≤ n && n ≤ teamCount

/-- The checks on a step's operands that its wire form imposes. -/
def Instr.wellFormed : Instr → Bool
  | .commandFrameComplete f => f.wellFormed
  | .linkFrameAbandoned length => length = 0 || 63 < length.toNat
  | .unknownKind f => f.wellFormed
  | .setTeam _ _ name _ _ => name.length = 10
  | .setHouse _ _ name _ _ _ => name.length = 10
  | .setPlacePoints points => points.length = 8
  | .lineRunStart n => isTeamNumber n
  | .lineReady n => isTeamNumber n
  | .linePressAccepted n => isTeamNumber n
  | .lineReleaseAccepted n => isTeamNumber n
  | .stuck n => isTeamNumber n
  | .cleared n => isTeamNumber n
  | .winnerBlinkEnd t => isTeamNumber t
  | .hardReset | .modeByte _ | .linkFrameGap | .identify | .setRate _ | .statusGet | .setNoticeMask _ | .holdReports _
  | .fetchReports _ | .showReset | .showResetExecute | .writeRound _ _ | .readRound _ | .handOver _ | .takeBack _
  | .setPointer _ | .go | .startRound | .openRound | .closeRound | .judge _ | .revealKey _ | .pause | .resume | .abandon
  | .readingTimerExpiry | .roundTimerSecond | .roundTimerExpiry | .answerTimerBlink | .answerTimerExpiry
  | .roundClockHold | .settleDeadlineReached | .lampBlinkTimerExpiry | .setLine _ _ _ _ | .readLine _
  | .padFrameArrival _ | .padRunt | .takeComplete | .setReceiver _ _ _ | .readReceiver _ | .readIntake | .enroll _ _ _
  | .withdraw _ | .move _ _ _ | .clearRoster | .setGuestMap _ | .readGuestMap | .readHandset _ | .readRoster _
  | .readAnswers _ _ | .readFloor | .adjustScore _ _ | .setScore _ _ | .setTieDisplay _ | .freeze | .unfreeze
  | .readStandings _ _ | .commitGame _ | .readHouses _ | .holdBoards | .revealBoards _ | .revealStep | .releaseBoards
  | .checkPanels | .setLeaderboardMode _ | .readBoard _ _ | .refreshSendBegin | .refreshSendComplete | .pollBegin
  | .panelPollReply _ _ _ | .panelPollTimeout | .replySendBegin | .replySent | .reportSendBegin | .reportSent
  | .reportHoldExpiry | .tick _ | .linkByteReceived _ | .padByteReceived _ => true

end Sys2Proof
end

