-- ==== Sys2Proof/Decode.lean ====
section
/-! DEFINITION. The wire forms of what the part receives: command frames and their payloads (R183, R185, R196), pad
frames (R68, R196), and which step a complete command frame asks for. The opcode table itself gives no row any bits,
so `decodeTableWord` reads no command from a table word. -/

namespace Sys2Proof

/-- `n` bytes of a value, high byte first (R196). -/
def bytesOf : Nat → Nat → List Byte
  | 0, _ => []
  | n + 1, x => BitVec.ofNat 8 (x / 256 ^ n) :: bytesOf n x

/-- The value of a run of bytes, high byte first (R196). -/
def valueOf (bytes : List Byte) : Nat := bytes.foldl (fun acc b => acc * 256 + b.toNat) 0

/-- The start byte of every frame on the control link (R183). -/
def linkStart : Byte := 0xC3

/-- The sync byte of a pad frame (R68). -/
def padSync : Byte := 0xB4

/-- L: the kind and the payload (R183). -/
def LinkFrame.length (f : LinkFrame) : Byte := BitVec.ofNat 8 (f.payload.length + 1)

/-- The sum of L, the kind, the payload and the check byte, modulo 256 (R185). -/
def frameSum (kind : Byte) (payload : List Byte) (check : Byte) : Byte :=
  BitVec.ofNat 8 (payload.length + 1 + kind.toNat + (payload.map BitVec.toNat).sum + check.toNat)

/-- R185, check 1: the sum of the frame is 0 modulo 256. -/
def LinkFrame.checkGood (f : LinkFrame) : Bool := frameSum f.kind f.payload f.check = 0

/-- The check byte that makes the sum 0 (R196). -/
def checkFor (kind : Byte) (payload : List Byte) : Byte := - frameSum kind payload 0

/-- The frame's bytes in the order they arrive (R183, R196). -/
def LinkFrame.bytes (f : LinkFrame) : List Byte :=
  linkStart :: f.length :: f.kind :: (f.payload ++ [f.check])

/-- The exclusive-or of a run of bytes (R68, R196). -/
def xorAll (bytes : List Byte) : Byte := bytes.foldl (· ^^^ ·) 0

/-- The six bytes that a pad frame's check byte covers, in order (R68, R196). -/
def PadFrame.covered (f : PadFrame) : List Byte :=
  f.receiver :: bytesOf 2 f.handset.toNat ++ [f.key, f.sequence, f.age]

/-- A pad frame's eight bytes in order (R68, R196). -/
def PadFrame.bytes (f : PadFrame) : List Byte := padSync :: f.covered ++ [f.check]

/-- The pad frame whose last seven bytes these are; none when they are not seven (R68, R196). -/
def PadFrame.ofTail : List Byte → Option PadFrame
  | [r, hi, lo, k, q, a, c] => some ⟨r, BitVec.ofNat 16 (valueOf [hi, lo]), k, q, a, c⟩
  | _ => none

/-- The 25 bytes of a descriptor payload (R196). -/
def DescriptorPayload.bytes (d : DescriptorPayload) : List Byte :=
  [d.kind, d.link] ++ bytesOf 2 d.basePoints.toNat ++ bytesOf 2 d.penalty.toNat ++ [d.bonusMax]
    ++ bytesOf 2 d.bonusWindow.toNat ++ bytesOf 2 d.timeLimit.toNat
    ++ [d.readingLimit, d.answerWindow, d.settleWindow, d.wrongLimit, d.falseStart, d.rebound, d.timeoutWrong,
        d.streakScoring, d.options, d.key, d.answerLock]
    ++ bytesOf 3 d.teamSet.toNat

/-- The descriptor payload that 25 bytes carry (R196). -/
def DescriptorPayload.ofBytes : List Byte → Option DescriptorPayload
  | [k, l, p1, p0, q1, q0, bm, w1, w0, t1, t0, rl, aw, sw, wl, fs, rb, tw, st, op, ky, al, s2, s1, s0] =>
    some ⟨k, l, BitVec.ofNat 16 (valueOf [p1, p0]), BitVec.ofNat 16 (valueOf [q1, q0]), bm,
      BitVec.ofNat 16 (valueOf [w1, w0]), BitVec.ofNat 16 (valueOf [t1, t0]), rl, aw, sw, wl, fs, rb, tw, st, op, ky, al,
      BitVec.ofNat 24 (valueOf [s2, s1, s0])⟩
  | _ => none

/-- The kind byte of a desk command (R196); none for a step that is no command. -/
def Instr.kindByte : Instr → Option Byte
  | .identify => some 0x01
  | .setRate _ => some 0x02
  | .statusGet => some 0x03
  | .setNoticeMask _ => some 0x04
  | .holdReports _ => some 0x05
  | .fetchReports _ => some 0x06
  | .showReset => some 0x07
  | .writeRound _ _ => some 0x10
  | .readRound _ => some 0x11
  | .handOver _ => some 0x12
  | .takeBack _ => some 0x13
  | .setPointer _ => some 0x14
  | .go => some 0x15
  | .startRound => some 0x18
  | .openRound => some 0x19
  | .closeRound => some 0x1A
  | .judge _ => some 0x1B
  | .revealKey _ => some 0x1C
  | .pause => some 0x1D
  | .resume => some 0x1E
  | .abandon => some 0x1F
  | .setLine _ _ _ _ => some 0x20
  | .readLine _ => some 0x21
  | .setReceiver _ _ _ => some 0x24
  | .readReceiver _ => some 0x25
  | .readIntake => some 0x26
  | .enroll _ _ _ => some 0x27
  | .withdraw _ => some 0x28
  | .move _ _ _ => some 0x29
  | .clearRoster => some 0x2A
  | .setGuestMap _ => some 0x2B
  | .readGuestMap => some 0x2C
  | .readHandset _ => some 0x2D
  | .readRoster _ => some 0x2E
  | .readAnswers _ _ => some 0x30
  | .readFloor => some 0x31
  | .setTeam _ _ _ _ _ => some 0x34
  | .adjustScore _ _ => some 0x35
  | .setScore _ _ => some 0x36
  | .setTieDisplay _ => some 0x37
  | .freeze => some 0x38
  | .unfreeze => some 0x39
  | .readStandings _ _ => some 0x3A
  | .setHouse _ _ _ _ _ _ => some 0x3C
  | .setPlacePoints _ => some 0x3D
  | .commitGame _ => some 0x3E
  | .readHouses _ => some 0x3F
  | .holdBoards => some 0x40
  | .revealBoards _ => some 0x41
  | .releaseBoards => some 0x42
  | .checkPanels => some 0x43
  | .setLeaderboardMode _ => some 0x44
  | .readBoard _ _ => some 0x45
  | .hardReset | .modeByte _ | .commandFrameComplete _ | .linkFrameAbandoned _ | .linkFrameGap | .unknownKind _
  | .showResetExecute | .readingTimerExpiry | .roundTimerSecond | .roundTimerExpiry | .answerTimerBlink
  | .answerTimerExpiry | .roundClockHold | .settleDeadlineReached | .lineRunStart _ | .lineReady _
  | .linePressAccepted _ | .lineReleaseAccepted _ | .stuck _ | .cleared _ | .lampBlinkTimerExpiry
  | .padFrameArrival _ | .padRunt | .takeComplete | .revealStep | .winnerBlinkEnd _ | .refreshSendBegin
  | .refreshSendComplete | .pollBegin | .panelPollReply _ _ _ | .panelPollTimeout | .replySendBegin | .replySent
  | .reportSendBegin | .reportSent | .reportHoldExpiry | .tick _ | .linkByteReceived _ | .padByteReceived _ => none

/-- The payload of a desk command (R196). -/
def Instr.payload : Instr → List Byte
  | .setRate rate => [rate]
  | .setNoticeMask classes => bytesOf 2 classes.toNat
  | .holdReports time => bytesOf 2 time.toNat
  | .fetchReports count => [count]
  | .writeRound slot d => slot :: d.bytes
  | .readRound slot => [slot]
  | .handOver slot => [slot]
  | .takeBack slot => [slot]
  | .setPointer slot => [slot]
  | .judge v => [v]
  | .revealKey o => [o]
  | .setLine n e p f => [n, e, p, f]
  | .readLine n => [n]
  | .setReceiver r e o => [r, e, o]
  | .readReceiver r => [r]
  | .enroll h t seat => bytesOf 2 h.toNat ++ [t, seat]
  | .withdraw h => bytesOf 2 h.toNat
  | .move h t seat => bytesOf 2 h.toNat ++ [t, seat]
  | .setGuestMap m => bytesOf 8 m.toNat
  | .readHandset h => bytesOf 2 h.toNat
  | .readRoster p => [p]
  | .readAnswers v a => [v, a]
  | .setTeam t len name playing house => t :: len :: (name ++ [playing, house])
  | .adjustScore t d => t :: bytesOf 2 d.toNat
  | .setScore t x => t :: bytesOf 2 x.toNat
  | .setTieDisplay o => [o]
  | .readStandings v a => [v, a]
  | .setHouse h len name shown total games => h :: len :: (name ++ shown :: (bytesOf 3 total.toNat ++ [games]))
  | .setPlacePoints points => points
  | .commitGame m => [m]
  | .readHouses v => [v]
  | .revealBoards i => [i]
  | .setLeaderboardMode m => [m]
  | .readBoard v a => [v, a]
  | .identify | .statusGet | .showReset | .go | .startRound | .openRound | .closeRound | .pause | .resume | .abandon
  | .readIntake | .clearRoster | .readGuestMap | .readFloor | .freeze | .unfreeze | .holdBoards | .releaseBoards
  | .checkPanels => []
  | .hardReset | .modeByte _ | .commandFrameComplete _ | .linkFrameAbandoned _ | .linkFrameGap | .unknownKind _
  | .showResetExecute | .readingTimerExpiry | .roundTimerSecond | .roundTimerExpiry | .answerTimerBlink
  | .answerTimerExpiry | .roundClockHold | .settleDeadlineReached | .lineRunStart _ | .lineReady _
  | .linePressAccepted _ | .lineReleaseAccepted _ | .stuck _ | .cleared _ | .lampBlinkTimerExpiry
  | .padFrameArrival _ | .padRunt | .takeComplete | .revealStep | .winnerBlinkEnd _ | .refreshSendBegin
  | .refreshSendComplete | .pollBegin | .panelPollReply _ _ _ | .panelPollTimeout | .replySendBegin | .replySent
  | .reportSendBegin | .reportSent | .reportHoldExpiry | .tick _ | .linkByteReceived _ | .padByteReceived _ => []

/-- The command frame that carries a desk command, with its good check byte (R196). -/
def Instr.frame (i : Instr) : Option LinkFrame :=
  i.kindByte.map fun kind => ⟨kind, i.payload, checkFor kind i.payload⟩

/-- The payload length that the kind code table gives a kind; none where the byte is no command kind (R185, R196). -/
def payloadLength (kind : Byte) : Option Nat :=
  match kind.toNat with
  | 0x01 | 0x03 | 0x07 | 0x15 | 0x18 | 0x19 | 0x1A | 0x1D | 0x1E | 0x1F | 0x26 | 0x2A | 0x2C | 0x31 | 0x38 | 0x39
  | 0x40 | 0x42 | 0x43 => some 0
  | 0x02 | 0x06 | 0x11 | 0x12 | 0x13 | 0x14 | 0x1B | 0x1C | 0x21 | 0x25 | 0x2E | 0x37 | 0x3E | 0x3F | 0x41 | 0x44 =>
    some 1
  | 0x04 | 0x05 | 0x28 | 0x2D | 0x30 | 0x3A | 0x45 => some 2
  | 0x24 | 0x35 | 0x36 => some 3
  | 0x20 | 0x27 | 0x29 => some 4
  | 0x2B | 0x3D => some 8
  | 0x34 => some 14
  | 0x3C => some 17
  | 0x10 => some 26
  | _ => none

/-- A payload of no bytes. -/
def args0 (i : Instr) : List Byte → Option Instr
  | [] => some i
  | _ => none

/-- A payload of one byte. -/
def args1 (f : Byte → Instr) : List Byte → Option Instr
  | [a] => some (f a)
  | _ => none

/-- A payload of two bytes. -/
def args2 (f : Byte → Byte → Instr) : List Byte → Option Instr
  | [a, b] => some (f a b)
  | _ => none

/-- A payload of one two-byte value. -/
def argsWord (f : BitVec 16 → Instr) : List Byte → Option Instr
  | [a, b] => some (f (BitVec.ofNat 16 (valueOf [a, b])))
  | _ => none

/-- A payload of three bytes. -/
def args3 (f : Byte → Byte → Byte → Instr) : List Byte → Option Instr
  | [a, b, c] => some (f a b c)
  | _ => none

/-- A payload of a byte and a two-byte value. -/
def argsByteWord (f : Byte → BitVec 16 → Instr) : List Byte → Option Instr
  | [a, b, c] => some (f a (BitVec.ofNat 16 (valueOf [b, c])))
  | _ => none

/-- A payload of four bytes. -/
def args4 (f : Byte → Byte → Byte → Byte → Instr) : List Byte → Option Instr
  | [a, b, c, d] => some (f a b c d)
  | _ => none

/-- A payload of a two-byte value and two bytes. -/
def argsWordBytes (f : BitVec 16 → Byte → Byte → Instr) : List Byte → Option Instr
  | [a, b, c, d] => some (f (BitVec.ofNat 16 (valueOf [a, b])) c d)
  | _ => none

/-- SET TEAM's payload: team; name (11); playing; house (R196). -/
def argsTeam : List Byte → Option Instr
  | [t, len, a, b, c, d, e, f, g, h, i, j, playing, house] =>
    some (.setTeam t len [a, b, c, d, e, f, g, h, i, j] playing house)
  | _ => none

/-- SET HOUSE's payload: house; name (11); shown; total (3); games counted (R196). -/
def argsHouse : List Byte → Option Instr
  | [n, len, a, b, c, d, e, f, g, h, i, j, shown, t2, t1, t0, games] =>
    some (.setHouse n len [a, b, c, d, e, f, g, h, i, j] shown (BitVec.ofNat 24 (valueOf [t2, t1, t0])) games)
  | _ => none

/-- WRITE ROUND's payload: slot; descriptor payload (R196). -/
def argsDescriptor : List Byte → Option Instr
  | slot :: rest => (DescriptorPayload.ofBytes rest).map (.writeRound slot)
  | _ => none

/-- A payload of eight bytes kept as a list. -/
def argsPoints (p : List Byte) : Option Instr := if p.length = 8 then some (.setPlacePoints p) else none

/-- A payload of eight bytes read as 64 positions, position 0 the top bit of the first byte (R196). -/
def argsMap (p : List Byte) : Option Instr :=
  if p.length = 8 then some (.setGuestMap (BitVec.ofNat 64 (valueOf p))) else none

/-- The desk command that a kind and a payload spell by the kind code table (R196). -/
def commandOf (kind : Byte) (p : List Byte) : Option Instr :=
  match kind.toNat with
  | 0x01 => args0 .identify p
  | 0x02 => args1 .setRate p
  | 0x03 => args0 .statusGet p
  | 0x04 => argsWord .setNoticeMask p
  | 0x05 => argsWord .holdReports p
  | 0x06 => args1 .fetchReports p
  | 0x07 => args0 .showReset p
  | 0x10 => argsDescriptor p
  | 0x11 => args1 .readRound p
  | 0x12 => args1 .handOver p
  | 0x13 => args1 .takeBack p
  | 0x14 => args1 .setPointer p
  | 0x15 => args0 .go p
  | 0x18 => args0 .startRound p
  | 0x19 => args0 .openRound p
  | 0x1A => args0 .closeRound p
  | 0x1B => args1 .judge p
  | 0x1C => args1 .revealKey p
  | 0x1D => args0 .pause p
  | 0x1E => args0 .resume p
  | 0x1F => args0 .abandon p
  | 0x20 => args4 .setLine p
  | 0x21 => args1 .readLine p
  | 0x24 => args3 .setReceiver p
  | 0x25 => args1 .readReceiver p
  | 0x26 => args0 .readIntake p
  | 0x27 => argsWordBytes .enroll p
  | 0x28 => argsWord .withdraw p
  | 0x29 => argsWordBytes .move p
  | 0x2A => args0 .clearRoster p
  | 0x2B => argsMap p
  | 0x2C => args0 .readGuestMap p
  | 0x2D => argsWord .readHandset p
  | 0x2E => args1 .readRoster p
  | 0x30 => args2 .readAnswers p
  | 0x31 => args0 .readFloor p
  | 0x34 => argsTeam p
  | 0x35 => argsByteWord .adjustScore p
  | 0x36 => argsByteWord .setScore p
  | 0x37 => args1 .setTieDisplay p
  | 0x38 => args0 .freeze p
  | 0x39 => args0 .unfreeze p
  | 0x3A => args2 .readStandings p
  | 0x3C => argsHouse p
  | 0x3D => argsPoints p
  | 0x3E => args1 .commitGame p
  | 0x3F => args1 .readHouses p
  | 0x40 => args0 .holdBoards p
  | 0x41 => args1 .revealBoards p
  | 0x42 => args0 .releaseBoards p
  | 0x43 => args0 .checkPanels p
  | 0x44 => args1 .setLeaderboardMode p
  | 0x45 => args2 .readBoard p
  | _ => none

/-- The command a complete frame asks the link to carry out, when it passes the three checks of R185. -/
def LinkFrame.command (f : LinkFrame) : Option Instr := if f.checkGood then commandOf f.kind f.payload else none

/-- The opcode table gives no row of this block any bits, so no table word spells a command (log 8). -/
def decodeTableWord (_nbits _w : Nat) : Option Instr := none

end Sys2Proof
end

