-- ==== Sys2Proof/Config.lean ====
section
/-! DEFINITION. The free values: what the spec leaves open, as constants with no body. Each is applied to the
state's counter `free`, which the step advances when it reads one, so that two readings need not agree. -/

namespace Sys2Proof

/-- The three bytes that stand in a CLAIM event for a stamp below 0. R82 carries such a stamp 'to the refusal for
the record', and R196 gives clock values no sign. Arguments: the counter, and how far below 0 the stamp lies.
DESIGN CHOICE, safe (log 11): nothing in Lean can evaluate it. -/
opaque Config.unstatedStamp : Nat → Nat → BitVec 24

/-- Whether the SCORE CHANGED event of a penalised false start comes before the WITHDRAWN event of the team's
queued claim. R95 and R111 put both after the CLAIM event and say nothing of their order.
DESIGN CHOICE, safe (log 12). -/
opaque Config.penaltyBeforeWithdrawal : Nat → Bool

end Sys2Proof
end

