-- ==== Sys2Proof/Machine/State.lean ====
section
/-! DEFINITION. The state of the part, as plain data: every piece of state that the nine units hold (INVENTORY.md,
'State'), the events they raise, and the state after a hard reset. What the spec gives as a view of other state
(positions, ranks, places, target images, dirty marks, the settle deadline, the countdown) is computed from it, in one
place each (log 13). -/

namespace Sys2Proof.Machine

/-! ### Names of fixed sets -/

/-- The kind of a round (R1). -/
inductive RoundKind where
  | none | buzz | choice | poll
  deriving DecidableEq, Repr

/-- Option keys (00_scope.md, 'Keys'). -/
inductive OptKey where
  | a | b | c | d | e | f
  deriving DecidableEq, Repr

/-- The key of a CHOICE descriptor: an option, or HELD (R2). -/
inductive RoundKey where
  | held
  | given (option : OptKey)
  deriving DecidableEq, Repr

/-- What a false start costs (R2, R95). -/
inductive FalseStartRule where
  | ignore | lock | penalise
  deriving DecidableEq, Repr

/-- What follows a wrong answer when the round goes on (R2, R108, R109). -/
inductive ReboundMode where
  | queue | reopen
  deriving DecidableEq, Repr

/-- Which answer of a handset stands (R2, R121, R122). -/
inductive AnswerLock where
  | first | last
  deriving DecidableEq, Repr

/-- Who a slot belongs to (R5). -/
inductive Owner where
  | edit | engine
  deriving DecidableEq, Repr

/-- How a round ended (R4). -/
inductive RoundOutcome where
  | none | won | noWinner | timedOut | scored | polled | abandoned
  deriving DecidableEq, Repr

/-- Why the engine is parked (R6). -/
inductive ParkReason where
  | noLink | notHandedOver
  deriving DecidableEq, Repr

/-- What GO examines (R6). -/
inductive ParkBasis where
  | afterClose | atSlot
  deriving DecidableEq, Repr

/-- The nine engine states (R21). -/
inductive EngineState where
  | idle | cued | reading | opened | settling | floor | tallying | awaitKey | paused
  deriving DecidableEq, Repr

/-- Why a team is barred (R96). -/
inductive LockReason where
  | falseStart | wrong | timeout
  deriving DecidableEq, Repr

/-- Where a claim came from (R92). -/
inductive Source where
  | console (line : Nat)
  | handset (id : BitVec 16) (receiver : Nat)
  deriving DecidableEq, Repr

/-- The level that means pressed (R51). -/
inductive Polarity where
  | low | high
  deriving DecidableEq, Repr

/-- The five line states (R53). -/
inductive LineState where
  | disabled | waitRelease | ready | pressed | stuck
  deriving DecidableEq, Repr

/-- The level a sample shows (R51). -/
inductive LineLevel where
  | released | pressed
  deriving DecidableEq, Repr

/-- A lamp (section 3.6). -/
inductive LampState where
  | off | on | blink
  deriving DecidableEq, Repr

/-- The phase of the lamp blink timer (R65). -/
inductive LampPhase where
  | lit | dark
  deriving DecidableEq, Repr

/-- The keys of a handset (R68). -/
inductive PadKey where
  | option (k : OptKey)
  | buzz
  | hello
  deriving DecidableEq, Repr

/-- The state of the tally (R115, R125, R128, R130). -/
inductive TallyState where
  | none | counted | keyed | discarded
  deriving DecidableEq, Repr

/-- How ties are shown (R147). -/
inductive TieDisplay where
  | strict | shared
  deriving DecidableEq, Repr

/-- How a game is committed (R160). -/
inductive CommitMethod where
  | score | places
  deriving DecidableEq, Repr

/-- What a panel check found (R165). -/
inductive Presence where
  | present | fault | missing
  deriving DecidableEq, Repr

/-- Whether the panels follow the standings (section 9.5). -/
inductive BoardState where
  | live | held | revealing
  deriving DecidableEq, Repr

/-- Which lines the leaderboard shows (R166, R177). -/
inductive BoardMode where
  | teams | houses
  deriving DecidableEq, Repr

/-- The two kinds of work on the panel chain (R168). -/
inductive ChainKind where
  | refresh | poll
  deriving DecidableEq, Repr

/-- The link mode (R181). -/
inductive LinkMode where
  | listen | singleWire | twoWire
  deriving DecidableEq, Repr

/-- How far a SHOW RESET has come: none taken; answered but its reply not yet sent; due (R194). -/
inductive ShowResetPhase where
  | idle | asked | due
  deriving DecidableEq, Repr

/-- The reply codes (R185). -/
inductive ReplyCode where
  | done | taken | badCheck | badLength | unknownKind | outOfRange | wrongState | slotHeld | tableFull | notFound
  | duplicate | busy | frozen
  deriving DecidableEq, Repr

/-- The 12 event classes, in the order of their codes (R189, R196). -/
inductive EventClass where
  | round | claim | floor | verdict | timer | tally | score | board | intake | roster | list | link
  deriving DecidableEq, Repr

/-- The three timers of the engine (R31, R32, R35). -/
inductive TimerName where
  | reading | round | answer
  deriving DecidableEq, Repr

/-- How a claim came out (R93, R95, R98, R109). -/
inductive ClaimOutcome where
  | admitted | replaced | duplicate | locked | holdsFloor | late | paused | notInPlay | beforeReopen
  | falseStartIgnored | falseStartLocked | falseStartPenalised | falseStartAlreadyLocked
  deriving DecidableEq, Repr

/-- Why a queued claim was withdrawn (R111). -/
inductive WithdrawReason where
  | falseStartLock | late | reopen
  deriving DecidableEq, Repr

/-- A verdict on the floor holder (R105, R106). -/
inductive Verdict where
  | right | wrong | timeout
  deriving DecidableEq, Repr

/-- What follows a verdict (R106, R111). -/
inductive Follows where
  | closeWon | closeNoWinner | reboundQueue | reboundReopen
  deriving DecidableEq, Repr

/-- Where a score change came from (R137). -/
inductive ScoreSource where
  | verdict | falseStart | share | adjust | set
  deriving DecidableEq, Repr

/-- Why a pad frame was discarded (R69). -/
inductive BadFrameReason where
  | check | receiver | handsetId | key | runt
  deriving DecidableEq, Repr

/-- Why a command frame was lost (R192). -/
inductive LinkFaultReason where
  | length | gap | bufferFull
  deriving DecidableEq, Repr

/-! ### Records -/

/-- The nineteen set-up fields of a descriptor (R2), numbers as stored (R7). -/
structure Descriptor where
  kind : RoundKind
  link : Option (Fin 128)
  basePoints : BitVec 16
  penalty : BitVec 16
  bonusMax : BitVec 8
  bonusWindow : BitVec 16
  timeLimit : BitVec 16
  readingLimit : BitVec 8
  answerWindow : BitVec 8
  settleWindow : BitVec 8
  wrongLimit : BitVec 8
  falseStart : FalseStartRule
  rebound : ReboundMode
  timeoutWrong : Bool
  streakScoring : Bool
  options : BitVec 8
  key : RoundKey
  answerLock : AnswerLock
  teamSet : BitVec 24
  deriving DecidableEq, Repr

/-- The outcome fields of a descriptor (R4). -/
structure RoundResult where
  outcome : RoundOutcome
  winner : Option Nat
  claims : Nat
  wrong : Nat
  duration : Nat
  deriving DecidableEq, Repr

/-- One slot of the Round List (R1). -/
structure Slot where
  setup : Descriptor
  owner : Owner
  result : RoundResult
  deriving DecidableEq, Repr

/-- The Round List: slots, list pointer, park record (R1, R6). -/
structure RoundList where
  slots : List Slot
  pointer : Fin 128
  park : Option (ParkReason × ParkBasis)
  deriving DecidableEq, Repr

/-- The floor holder (R23, R102): `number` is the arrival number of the claim that won the floor. -/
structure Holder where
  team : Nat
  stamp : Nat
  source : Source
  number : Nat
  deriving DecidableEq, Repr

/-- The round context (R23), less the remembered state, which stands beside the engine state. `locks` has one place
for each team. `settleDue` is the model's own: a claim has been admitted in a pause of OPEN, and the change to SETTLING
that it calls for is to be made at RESUME (R45, R94; log 45). -/
structure Context where
  slot : Fin 128
  kind : RoundKind
  serial : BitVec 8
  openTime : Option Nat
  timeCalled : Bool
  expiryStamp : Option Nat
  holder : Option Holder
  wrongCount : Nat
  grantCount : Nat
  claimsAdmitted : Nat
  locks : List (Option LockReason)
  closeMark : Option Nat
  readingLeft : Nat
  roundLeft : Option Nat
  answerLeft : Option Nat
  lastSecond : Option Nat
  settleDue : Bool
  deriving DecidableEq, Repr

/-- The Round Engine (R21 to R28). -/
structure Engine where
  state : EngineState
  remembered : Option EngineState
  clock : Nat
  serial : BitVec 8
  tieStart : Nat
  round : Option Context
  deriving DecidableEq, Repr

/-- A claim in the claim queue (R97, R99). -/
structure QueuedClaim where
  team : Nat
  stamp : Nat
  source : Source
  number : Nat
  deriving DecidableEq, Repr

/-- The Floor Arbiter's own state: the claim queue and the reopen mark (R97, R109). -/
structure Arbiter where
  queue : List QueuedClaim
  reopen : Option Nat
  deriving DecidableEq, Repr

/-- The four values recorded when a run of a level begins (R52). -/
structure RunStart where
  clock : Nat
  live : Bool
  serial : BitVec 8
  paused : Bool
  deriving DecidableEq, Repr

/-- One line record (R51). `runLength` counts the samples of the current run; `fresh` says that a new run begins at
the next sample; `newRun` holds the four values of a run whose run start has not been recorded yet (log 4). -/
structure LineRecord where
  enabled : Bool
  polarity : Polarity
  filter : Nat
  state : LineState
  level : LineLevel
  runStart : Option RunStart
  count : Nat
  runLength : Nat
  fresh : Bool
  newRun : Option RunStart
  deriving DecidableEq, Repr

/-- The Console Line Unit: 24 line records, 48 lamps, the shared blink timer (R51, R63 to R65). -/
structure ConsoleUnit where
  records : List LineRecord
  floorLamps : List LampState
  lockLamps : List LampState
  blinkLeft : Nat
  phase : LampPhase
  deriving DecidableEq, Repr

/-- A receiver record (R71). -/
structure Receiver where
  enabled : Bool
  offset : Nat
  accepted : Nat
  refused : Nat
  deriving DecidableEq, Repr

/-- An entry of the intake FIFO (R70). -/
structure FifoEntry where
  receiver : Nat
  handset : BitVec 16
  key : PadKey
  sequence : Nat
  batteryLow : Bool
  age : Nat
  serial : BitVec 8
  paused : Bool
  arrival : Option Nat
  deriving DecidableEq, Repr

/-- A roster entry (R85). -/
structure RosterEntry where
  handset : BitVec 16
  team : Nat
  seat : Nat
  lastSequence : Option Nat
  lastSerial : Option (BitVec 8)
  present : Bool
  batteryLow : Bool
  deriving DecidableEq, Repr

/-- The Handset Intake (R69 to R91). `port` holds the bytes received after the sync byte of a pad frame, or is absent
while the port waits. -/
structure Intake where
  receivers : List Receiver
  fifo : List FifoEntry
  taking : Bool
  overrun : Bool
  repeats : Nat
  outside : Nat
  stale : Nat
  port : Option (List Byte)
  portGap : Nat
  roster : List (Option RosterEntry)
  guestMap : BitVec 64
  deriving DecidableEq, Repr

/-- An entry of the answer table (R114). -/
structure AnswerEntry where
  handset : BitVec 16
  team : Option Nat
  option : OptKey
  stamp : Nat
  changes : Nat
  deriving DecidableEq, Repr

/-- The seven answer counts (R116). -/
structure AnswerCounts where
  recorded : Nat
  changed : Nat
  ignored : Nat
  paused : Nat
  early : Nat
  late : Nat
  audienceFull : Nat
  deriving DecidableEq, Repr

/-- What READ ANSWERS tells of the round the table belongs to (R131): its kind, options and key, and the teams that
were counted (of the team set and playing), which cannot change while it is live (R93). -/
structure TableRound where
  kind : RoundKind
  options : Nat
  key : RoundKey
  counted : BitVec 24
  deriving DecidableEq, Repr

/-- The tally (R124, R126, R128, R129): one place for each team in the last three lists but `percents`. -/
structure Tally where
  counts : List Nat
  total : Nat
  members : List (Option Nat)
  right : List (Option Nat)
  shares : List (Option Nat)
  percents : List Nat
  revealed : Option OptKey
  deriving DecidableEq, Repr

/-- The Answer Collector (R114 to R116). -/
structure Collector where
  table : List (Option AnswerEntry)
  tableSerial : Option (BitVec 8)
  about : Option TableRound
  counts : AnswerCounts
  fullMark : Bool
  tallyState : TallyState
  tally : Option Tally
  deriving DecidableEq, Repr

/-- A team record, less the position and shown rank, which are computed (R132, log 13). -/
structure TeamRecord where
  playing : Bool
  name : List Byte
  house : Nat
  score : Int
  streak : Nat
  correct : Nat
  wrong : Nat
  sequence : Nat
  clamped : Bool
  deriving DecidableEq, Repr

/-- A house record, less the place, which is computed (R155, log 13). -/
structure HouseRecord where
  name : List Byte
  shown : Bool
  total : Int
  games : Nat
  deriving DecidableEq, Repr

/-- The Standings Unit (R132, R133, R155, R158). -/
structure Standings where
  teams : List TeamRecord
  counter : Nat
  frozen : Bool
  tie : TieDisplay
  houses : List HouseRecord
  placePoints : List Nat
  deriving DecidableEq, Repr

/-- One line of the leaderboard that is not blank (R166). -/
structure BoardLine where
  rank : Nat
  name : List Byte
  total : Int
  deriving DecidableEq, Repr

/-- A team panel image (R166). -/
structure TeamImage where
  score : Option Int
  rank : Option Nat
  blink : Bool
  deriving DecidableEq, Repr

/-- A leaderboard image (R166). -/
structure LeaderImage where
  mode : BoardMode
  lines : List (Option BoardLine)
  countdown : Option Nat
  slot : Option Nat
  deriving DecidableEq, Repr

/-- An image of a panel's kind (R165). -/
inductive Image where
  | team (image : TeamImage)
  | leader (image : LeaderImage)
  deriving DecidableEq, Repr

/-- A panel record, less the target image and the dirty mark, which are computed (R165, log 13). `blinkLeft` is the
blink remaining, from which the live blink value is computed (R166, R172); `blinkOpen`, the model's own, says that a
winner blink has begun whose row WINNER_BLINK_END has not come yet, and no image reads it (log 5). The leaderboard's line
held marks stand in `Board`. -/
structure PanelRecord where
  shown : Option Image
  presence : Presence
  held : Bool
  blinkLeft : Nat
  blinkOpen : Bool
  deriving DecidableEq, Repr

/-- The held snapshot (R173). -/
structure Snapshot where
  panels : List (Option Int × Option Nat)
  teamLines : List (Option BoardLine)
  houseLines : List (Option BoardLine)
  deriving DecidableEq, Repr

/-- What the panel chain carries (R168 to R170). `void` marks an operation whose completion a show reset has made
without effect (R169, R180); `waited` is the ms since a poll began. -/
inductive Chain where
  | free
  | refresh (address : Nat) (image : Image) (void : Bool)
  | poll (address : Nat) (waited : Nat) (void : Bool)
  deriving DecidableEq, Repr

/-- A panel check in progress (R170, R171). -/
structure PanelCheck where
  next : Nat
  changed : Nat
  deriving DecidableEq, Repr

/-- The Board Driver (R165 to R180). -/
structure Board where
  panels : List PanelRecord
  lineHeld : List Bool
  state : BoardState
  snapshot : Option Snapshot
  cursor : Nat
  interval : Nat
  revealLeft : Nat
  mode : BoardMode
  chain : Chain
  lastKind : Option ChainKind
  pointer : Nat
  check : Option PanelCheck
  deriving DecidableEq, Repr

/-- What GAME COMMITTED carries for one house (R162). -/
structure HouseChange where
  sum : Int
  applied : Int
  total : Int
  games : Nat
  deriving DecidableEq, Repr

/-- Every event of the part, with the values its rule says it carries, but for the round serial, which stands in the
report (R14, R48, R56, R57, R69, R72, R76, R80, R111, R120, R125, R128, R152, R157, R162, R179, R192). In `claim`,
`code` is what stands on the wire for a stamp below 0 (log 11). -/
inductive Event where
  | roundStarted (slot : Fin 128) (kind : RoundKind)
  | roundOpened (slot : Fin 128) (openTime : Nat) (tieStart : Option Nat)
  | roundPaused (remembered : EngineState) (clock : Nat)
  | roundResumed (state : EngineState) (clock : Nat)
  | roundTallying (closeMark : Nat)
  | roundAwaitingKey (slot : Fin 128)
  | roundClosed (slot : Fin 128) (kind : RoundKind) (outcome : RoundOutcome) (winner : Option Nat)
      (claims left grants wrong duration : Nat)
  | timerSecond (seconds : Nat)
  | timerWarning (seconds : Nat)
  | timerExpired (timer : TimerName) (expiryStamp : Option Nat) (team : Option Nat)
  | claim (team : Nat) (outcome : ClaimOutcome) (stamp : Int) (code : BitVec 24) (source : Source)
      (arrival number place oldStamp : Option Nat)
  | claimWithdrawn (team stamp : Nat) (source : Source) (number : Nat) (reason : WithdrawReason)
  | lineStuck (line : Nat) (left : LineState)
  | lineCleared (line count : Nat)
  | floorGranted (team stamp : Nat) (source : Source) (number grants window left : Nat)
  | verdictGiven (team : Nat) (verdict : Verdict) (stamp wrong : Nat) (follows : Follows)
  | tallyCounted (slot : Fin 128) (kind : RoundKind) (counts : List Nat) (total : Nat) (percents : List Nat)
      (key : Option RoundKey) (teams : Option Nat) (answers : AnswerCounts)
  | tallyKeyed (slot : Fin 128) (key : OptKey) (count teams : Nat)
  | scoreChanged (team : Nat) (source : ScoreSource) (verdict : Option Verdict) (award : Option Int)
      (applied score : Int) (clamped : Bool) (streak sequence : Nat) (position rank : Option Nat)
  | teamChanged (team : Nat) (playing : Bool) (house : Nat) (position : Option Nat)
  | freezeSet (counter : Nat)
  | freezeReleased
  | gameCommitted (method : CommitMethod) (teams : Nat) (houses : List HouseChange)
  | houseChanged (house : Nat) (shown : Bool) (total : Int) (games : Nat) (place : Option Nat)
  | boardHeld (playing : Nat)
  | revealStep (cursor : Nat) (team line : Option Nat)
  | revealComplete
  | boardReleased (left : BoardState)
  | checkComplete (presences : List Presence) (present fault missing changed : Nat)
  | badFrame (reason : BadFrameReason) (receiver : Option Nat)
  | overrun (receiver : Nat)
  | unknownHandset (handset : BitVec 16) (receiver : Nat)
  | audienceFull (handset : BitVec 16)
  | handsetPresent (handset : BitVec 16) (team seat : Nat)
  | batteryLow (handset : BitVec 16) (team seat : Nat)
  | batteryOk (handset : BitVec 16) (team seat : Nat)
  | listCued (slot : Fin 128)
  | listIdle (slot : Fin 128) (reason : ParkReason) (basis : ParkBasis)
  | linkFault (reason : LinkFaultReason) (kind : Option Byte)
  | queueOverflow (dropped : Nat)
  deriving DecidableEq, Repr

/-- A report: an event with its contents fixed when it was raised, and the round serial it carries, if any
(R189, R196). -/
structure Report where
  serial : Option (BitVec 8)
  event : Event
  deriving DecidableEq, Repr

/-- A reply: the kind of the command answered, the reply code and the data (R185). -/
structure Reply where
  kind : Byte
  code : ReplyCode
  data : List Byte
  deriving DecidableEq, Repr

/-- What the transmit line carries (R186, R187). -/
inductive TransmitLine where
  | free
  | reply (r : Reply)
  | report (r : Report)
  deriving DecidableEq, Repr

/-- The Control Link (R181 to R195). `receiving` holds the bytes received after the start byte of a command frame;
`carriedOut` says that the front frame of the buffer has been carried out; `hold` is the time left of the report hold
in force; `fetchLeft` counts the fetched reports still to be sent after a FETCH REPORTS reply. -/
structure Link where
  mode : LinkMode
  rate : Nat
  newRate : Option Nat
  rateWindow : Bool
  receiving : Option (List Byte)
  gap : Nat
  buffer : List LinkFrame
  carriedOut : Bool
  reply : Option Reply
  line : TransmitLine
  fetchLeft : Nat
  showReset : ShowResetPhase
  flags : BitVec 12
  mask : BitVec 12
  queue : List Report
  lost : Bool
  dropped : Nat
  hold : Option Nat
  deriving DecidableEq, Repr

/-- The state of the part: its nine units (the house cup is the Standings Unit's), the counter of the free values
(log 10) and the queue of steps that wait, first in, first out. -/
structure State where
  list : RoundList
  engine : Engine
  arbiter : Arbiter
  consoles : ConsoleUnit
  intake : Intake
  answers : Collector
  standings : Standings
  board : Board
  link : Link
  free : Nat
  pending : List Instr
  deriving DecidableEq, Repr

/-- No step of the part stops it: the spec answers a refused command with a reply code and a bad frame with an event.
So there is no fault. -/
inductive Fault where
  deriving DecidableEq, Repr

/-- A step that the model refuses. -/
inductive Refusal where
  /-- Raised by `exec` in the arm of a row that has no meaning yet; safe, since nothing follows from it. No arm of
  this model raises it. -/
  | notModelled (mnemonic : String)
  deriving DecidableEq, Repr

/-! ### The state after a hard reset -/

/-- The hard reset values of R2. -/
def Descriptor.blank : Descriptor where
  kind := .none
  link := none
  basePoints := 0
  penalty := 0
  bonusMax := 0
  bonusWindow := 0
  timeLimit := 300
  readingLimit := 10
  answerWindow := 10
  settleWindow := 10
  wrongLimit := 3
  falseStart := .lock
  rebound := .queue
  timeoutWrong := true
  streakScoring := false
  options := 4
  key := .given .a
  answerLock := .last
  teamSet := BitVec.allOnes 24

/-- The cleared values of the outcome fields (R4). -/
def RoundResult.cleared : RoundResult := ⟨.none, none, 0, 0, 0⟩

/-- A slot after a hard reset (R19). -/
def Slot.blank : Slot := ⟨Descriptor.blank, .edit, RoundResult.cleared⟩

/-- R19. -/
def RoundList.reset : RoundList := ⟨List.replicate 128 Slot.blank, 0, some (.notHandedOver, .atSlot)⟩

/-- R49. -/
def Engine.reset : Engine := ⟨.idle, none, 0, 0, 1, none⟩

/-- R113. -/
def Arbiter.reset : Arbiter := ⟨[], none⟩

/-- R66; the level before the first sample is a DESIGN CHOICE (log 9). -/
def LineRecord.reset : LineRecord := ⟨true, .low, 5, .waitRelease, .released, none, 0, 0, true, none⟩

/-- The blink timer's period, in ms (R65). -/
def lampPeriod : Nat := 250

/-- R65, R66. -/
def ConsoleUnit.reset : ConsoleUnit :=
  ⟨List.replicate teamCount LineRecord.reset, List.replicate teamCount .off, List.replicate teamCount .off, lampPeriod,
    .lit⟩

/-- R90. -/
def Intake.reset : Intake :=
  ⟨List.replicate 4 ⟨true, 0, 0, 0⟩, [], false, false, 0, 0, 0, none, 0, List.replicate 192 none, 0⟩

/-- R116. -/
def AnswerCounts.zero : AnswerCounts := ⟨0, 0, 0, 0, 0, 0, 0⟩

/-- R115, R116. -/
def Collector.reset : Collector := ⟨List.replicate 256 none, none, none, AnswerCounts.zero, false, .none, none⟩

/-- A name of 10 spaces (R153, R164). -/
def blankName : List Byte := List.replicate 10 0x20

/-- R153. -/
def TeamRecord.reset : TeamRecord := ⟨false, blankName, 0, 0, 0, 0, 0, 0, false⟩

/-- R164. -/
def HouseRecord.reset : HouseRecord := ⟨blankName, false, 0, 0⟩

/-- R153, R164; the place points of R158. -/
def Standings.reset : Standings :=
  ⟨List.replicate teamCount TeamRecord.reset, 0, false, .strict, List.replicate 6 HouseRecord.reset,
    [10, 8, 6, 5, 4, 3, 2, 1]⟩

/-- R180. -/
def Board.reset : Board :=
  ⟨List.replicate 25 ⟨none, .present, false, 0, false⟩, List.replicate 8 false, .live, none, 0, 0, 0, .teams, .free,
    none, 24, none⟩

/-- R195. -/
def Link.reset : Link where
  mode := .listen
  rate := 0
  newRate := none
  rateWindow := false
  receiving := none
  gap := 0
  buffer := []
  carriedOut := false
  reply := none
  line := .free
  fetchLeft := 0
  showReset := .idle
  flags := 0
  mask := BitVec.allOnes 12
  queue := []
  lost := false
  dropped := 0
  hold := none

/-- The part right after a hard reset; `free` and the empty queue are the model's own (log 10). -/
def State.reset : State :=
  ⟨RoundList.reset, Engine.reset, Arbiter.reset, ConsoleUnit.reset, Intake.reset, Collector.reset, Standings.reset,
    Board.reset, Link.reset, 0, []⟩

/-! ### Replacing one unit -/

/-- The state with its Round List replaced. -/
def State.setList (s : State) (x : RoundList) : State := { s with list := x }
/-- The state with its Round Engine replaced. -/
def State.setEngine (s : State) (x : Engine) : State := { s with engine := x }
/-- The state with its Floor Arbiter replaced. -/
def State.setArbiter (s : State) (x : Arbiter) : State := { s with arbiter := x }
/-- The state with its Console Line Unit replaced. -/
def State.setConsoles (s : State) (x : ConsoleUnit) : State := { s with consoles := x }
/-- The state with its Handset Intake replaced. -/
def State.setIntake (s : State) (x : Intake) : State := { s with intake := x }
/-- The state with its Answer Collector replaced. -/
def State.setAnswers (s : State) (x : Collector) : State := { s with answers := x }
/-- The state with its Standings Unit replaced. -/
def State.setStandings (s : State) (x : Standings) : State := { s with standings := x }
/-- The state with its Board Driver replaced. -/
def State.setBoard (s : State) (x : Board) : State := { s with board := x }
/-- The state with its Control Link replaced. -/
def State.setLink (s : State) (x : Link) : State := { s with link := x }
/-- The state with the counter of the free values replaced. -/
def State.setFree (s : State) (x : Nat) : State := { s with free := x }
/-- The state with its queue replaced. -/
def State.setPending (s : State) (x : List Instr) : State := { s with pending := x }

end Sys2Proof.Machine
end

