-- ==== Sys2Proof/Machine/Operands.lean ====
section
/-! DEFINITION. The forms of values on the wire (R196): the codes of the enumerated values, both ways where the part
receives them, and the forms of quantities, scores, totals, names, sets and sources in reply and report data. -/

namespace Sys2Proof.Machine

/-! ### Codes of enumerated values that the part sends (R196) -/

/-- Round kind. -/
def RoundKind.code : RoundKind → Byte
  | .none => 0 | .buzz => 1 | .choice => 2 | .poll => 3

/-- The place of an option key, 1..6. -/
def OptKey.place : OptKey → Nat
  | .a => 1 | .b => 2 | .c => 3 | .d => 4 | .e => 5 | .f => 6

/-- Option or key A..F: 1..6. -/
def OptKey.code (k : OptKey) : Byte := BitVec.ofNat 8 k.place

/-- Key: HELD 0, A..F 1..6. -/
def RoundKey.code : RoundKey → Byte
  | .held => 0
  | .given k => k.code

/-- False-start rule. -/
def FalseStartRule.code : FalseStartRule → Byte
  | .ignore => 0 | .lock => 1 | .penalise => 2

/-- Rebound mode. -/
def ReboundMode.code : ReboundMode → Byte
  | .queue => 0 | .reopen => 1

/-- Answer lock. -/
def AnswerLock.code : AnswerLock → Byte
  | .first => 0 | .last => 1

/-- Owner. -/
def Owner.code : Owner → Byte
  | .edit => 0 | .engine => 1

/-- Outcome. -/
def RoundOutcome.code : RoundOutcome → Byte
  | .none => 0 | .won => 1 | .noWinner => 2 | .timedOut => 3 | .scored => 4 | .polled => 5 | .abandoned => 6

/-- Park reason. -/
def ParkReason.code : ParkReason → Byte
  | .noLink => 0 | .notHandedOver => 1

/-- Park basis. -/
def ParkBasis.code : ParkBasis → Byte
  | .afterClose => 0 | .atSlot => 1

/-- Engine state. -/
def EngineState.code : EngineState → Byte
  | .idle => 0 | .cued => 1 | .reading => 2 | .opened => 3 | .settling => 4 | .floor => 5 | .tallying => 6
  | .awaitKey => 7 | .paused => 8

/-- The two bits of a lock reason in READ FLOOR. -/
def LockReason.bits : LockReason → BitVec 2
  | .falseStart => 1 | .wrong => 2 | .timeout => 3

/-- Press polarity. -/
def Polarity.code : Polarity → Byte
  | .low => 0 | .high => 1

/-- Line state. -/
def LineState.code : LineState → Byte
  | .disabled => 0 | .waitRelease => 1 | .ready => 2 | .pressed => 3 | .stuck => 4

/-- Line level. -/
def LineLevel.code : LineLevel → Byte
  | .released => 0 | .pressed => 1

/-- Lamp state. -/
def LampState.code : LampState → Byte
  | .off => 0 | .on => 1 | .blink => 2

/-- Tally state. -/
def TallyState.code : TallyState → Byte
  | .none => 0 | .counted => 1 | .keyed => 2 | .discarded => 3

/-- Tie display. -/
def TieDisplay.code : TieDisplay → Byte
  | .strict => 0 | .shared => 1

/-- Commit method. -/
def CommitMethod.code : CommitMethod → Byte
  | .score => 0 | .places => 1

/-- Presence. -/
def Presence.code : Presence → Byte
  | .present => 0 | .fault => 1 | .missing => 2

/-- Board state. -/
def BoardState.code : BoardState → Byte
  | .live => 0 | .held => 1 | .revealing => 2

/-- Leaderboard mode. -/
def BoardMode.code : BoardMode → Byte
  | .teams => 0 | .houses => 1

/-- Link mode. -/
def LinkMode.code : LinkMode → Byte
  | .listen => 0 | .singleWire => 1 | .twoWire => 2

/-- Reply codes (R185). -/
def ReplyCode.code : ReplyCode → Byte
  | .done => 0x40 | .taken => 0x41 | .badCheck => 0x50 | .badLength => 0x51 | .unknownKind => 0x52
  | .outOfRange => 0x53 | .wrongState => 0x54 | .slotHeld => 0x55 | .tableFull => 0x56 | .notFound => 0x57
  | .duplicate => 0x58 | .busy => 0x59 | .frozen => 0x5A

/-- Timer. -/
def TimerName.code : TimerName → Byte
  | .reading => 0 | .round => 1 | .answer => 2

/-- Claim outcome. -/
def ClaimOutcome.code : ClaimOutcome → Byte
  | .admitted => 0 | .replaced => 1 | .duplicate => 2 | .locked => 3 | .holdsFloor => 4 | .late => 5 | .paused => 6
  | .notInPlay => 7 | .beforeReopen => 8 | .falseStartIgnored => 9 | .falseStartLocked => 10
  | .falseStartPenalised => 11 | .falseStartAlreadyLocked => 12

/-- Withdraw reason. -/
def WithdrawReason.code : WithdrawReason → Byte
  | .falseStartLock => 0 | .late => 1 | .reopen => 2

/-- Verdict. -/
def Verdict.code : Verdict → Byte
  | .right => 0 | .wrong => 1 | .timeout => 2

/-- What follows a verdict. -/
def Follows.code : Follows → Byte
  | .closeWon => 0 | .closeNoWinner => 1 | .reboundQueue => 2 | .reboundReopen => 3

/-- Score change source. -/
def ScoreSource.code : ScoreSource → Byte
  | .verdict => 0 | .falseStart => 1 | .share => 2 | .adjust => 3 | .set => 4

/-- Bad-frame reason. -/
def BadFrameReason.code : BadFrameReason → Byte
  | .check => 0 | .receiver => 1 | .handsetId => 2 | .key => 3 | .runt => 4

/-- Link-fault reason. -/
def LinkFaultReason.code : LinkFaultReason → Byte
  | .length => 0 | .gap => 1 | .bufferFull => 2

/-! ### Codes that the part receives: none where the byte names no value -/

/-- Round kind (R196). -/
def RoundKind.ofCode (b : Byte) : Option RoundKind :=
  if b = 0 then some .none else if b = 1 then some .buzz else if b = 2 then some .choice
  else if b = 3 then some .poll else Option.none

/-- Option A..F: 1..6 (R196). -/
def OptKey.ofCode (b : Byte) : Option OptKey :=
  if b = 1 then some .a else if b = 2 then some .b else if b = 3 then some .c else if b = 4 then some .d
  else if b = 5 then some .e else if b = 6 then some .f else none

/-- Key: HELD 0, A..F 1..6 (R196). -/
def RoundKey.ofCode (b : Byte) : Option RoundKey := if b = 0 then some .held else (OptKey.ofCode b).map .given

/-- False-start rule (R196). -/
def FalseStartRule.ofCode (b : Byte) : Option FalseStartRule :=
  if b = 0 then some .ignore else if b = 1 then some .lock else if b = 2 then some .penalise else none

/-- Rebound mode (R196). -/
def ReboundMode.ofCode (b : Byte) : Option ReboundMode :=
  if b = 0 then some .queue else if b = 1 then some .reopen else none

/-- Answer lock (R196). -/
def AnswerLock.ofCode (b : Byte) : Option AnswerLock :=
  if b = 0 then some .first else if b = 1 then some .last else none

/-- YES or NO, ON or OFF: 1 and 0 (R196). -/
def boolOfCode (b : Byte) : Option Bool := if b = 0 then some false else if b = 1 then some true else none

/-- Press polarity (R196). -/
def Polarity.ofCode (b : Byte) : Option Polarity := if b = 0 then some .low else if b = 1 then some .high else none

/-- Tie display (R196). -/
def TieDisplay.ofCode (b : Byte) : Option TieDisplay :=
  if b = 0 then some .strict else if b = 1 then some .shared else none

/-- Commit method (R196). -/
def CommitMethod.ofCode (b : Byte) : Option CommitMethod :=
  if b = 0 then some .score else if b = 1 then some .places else none

/-- Leaderboard mode (R196). -/
def BoardMode.ofCode (b : Byte) : Option BoardMode :=
  if b = 0 then some .teams else if b = 1 then some .houses else none

/-- Key of a pad frame: A..F 1..6, BUZZ 7, HELLO 8 (R68, R196). -/
def PadKey.ofCode (b : Byte) : Option PadKey :=
  if b = 7 then some .buzz else if b = 8 then some .hello else (OptKey.ofCode b).map .option

/-- A slot number 0..127. -/
def slotOf (b : Byte) : Option (Fin 128) := if h : b.toNat < 128 then some ⟨b.toNat, h⟩ else none

/-- A link: slot 0..127, NONE 0xFF, 0x80..0xFE unknown (R196). -/
def linkOf (b : Byte) : Option (Option (Fin 128)) := if b = 0xFF then some none else (slotOf b).map some

/-! ### Forms of values in reply and report data (R196) -/

/-- An unsigned quantity of one byte. -/
def form1 (n : Nat) : List Byte := bytesOf 1 n

/-- An unsigned quantity of two bytes. -/
def form2 (n : Nat) : List Byte := bytesOf 2 n

/-- An unsigned quantity of three bytes; clock values and change sequences take this form. -/
def form3 (n : Nat) : List Byte := bytesOf 3 n

/-- A quantity of one byte, or absent: every bit set. -/
def form1? : Option Nat → List Byte
  | some n => form1 n
  | none => [0xFF]

/-- A quantity of two bytes, or absent: every bit set. -/
def form2? : Option Nat → List Byte
  | some n => form2 n
  | none => [0xFF, 0xFF]

/-- A quantity of three bytes, or absent: every bit set. -/
def form3? : Option Nat → List Byte
  | some n => form3 n
  | none => [0xFF, 0xFF, 0xFF]

/-- A score, delta or award: two bytes, two's complement. -/
def formScore (x : Int) : List Byte := bytesOf 2 (BitVec.ofInt 16 x).toNat

/-- A score, delta or award that may be blank or absent: 0x8000. -/
def formScore? : Option Int → List Byte
  | some x => formScore x
  | none => [0x80, 0x00]

/-- A house total or house sum: three bytes, two's complement. -/
def formTotal (x : Int) : List Byte := bytesOf 3 (BitVec.ofInt 24 x).toNat

/-- A total that may be blank: 0x800000. -/
def formTotal? : Option Int → List Byte
  | some x => formTotal x
  | none => [0x80, 0x00, 0x00]

/-- YES or NO, set or clear, ON or OFF. -/
def formBool (b : Bool) : List Byte := [if b then 1 else 0]

/-- An enumerated value, option or key, absent as 0xFF. -/
def formCode? : Option Byte → List Byte
  | some b => [b]
  | none => [0xFF]

/-- The ten characters of a name, unused bytes 0x20. -/
def nameChars (name : List Byte) : List Byte := (name ++ blankName).take 10

/-- A name: its length, then 10 bytes of characters. -/
def formName (name : List Byte) : List Byte := form1 name.length ++ nameChars name

/-- The source of a claim: the receiver or 0xFF for CONSOLE, then the handset id or the line number. -/
def formSource : Source → List Byte
  | .console line => 0xFF :: form2 line
  | .handset id receiver => form1 receiver ++ form2 id.toNat

/-- A stored link: a slot, or NONE 0xFF. -/
def formLink : Option (Fin 128) → List Byte
  | some k => form1 k.val
  | none => [0xFF]

/-- The lock set in READ FLOOR: two bits for each team 1..24 from the first byte's top bits. -/
def formLocks (locks : List (Option LockReason)) : List Byte :=
  bytesOf 6 (((locks ++ List.replicate teamCount none).take teamCount).foldl
    (fun (acc : Nat) (l : Option LockReason) => acc * 4 + (l.map (fun (r : LockReason) => r.bits.toNat)).getD 0) 0)

/-- The 25 bytes of a stored descriptor, in the layout of WRITE ROUND (R196). -/
def Descriptor.bytes (d : Descriptor) : List Byte :=
  [d.kind.code] ++ formLink d.link ++ bytesOf 2 d.basePoints.toNat ++ bytesOf 2 d.penalty.toNat ++ [d.bonusMax]
    ++ bytesOf 2 d.bonusWindow.toNat ++ bytesOf 2 d.timeLimit.toNat
    ++ [d.readingLimit, d.answerWindow, d.settleWindow, d.wrongLimit, d.falseStart.code, d.rebound.code]
    ++ formBool d.timeoutWrong ++ formBool d.streakScoring
    ++ [d.options, d.key.code, d.answerLock.code] ++ bytesOf 3 d.teamSet.toNat

/-- A leaderboard line as the panel shows it: rank (blank 0xFF), ten characters (blank all 0x20), total (blank
0x800000) (R196). -/
def formLine : Option BoardLine → List Byte
  | some l => form1 l.rank ++ nameChars l.name ++ formTotal l.total
  | none => 0xFF :: blankName ++ formTotal? none

/-- The values of a team panel image: score, rank, blink (R166, R196). -/
def TeamImage.bytes (m : TeamImage) : List Byte := formScore? m.score ++ form1? m.rank ++ formBool m.blink

/-- The values of a leaderboard image: mode, eight lines, countdown, slot (R166, R196). A panel frame and, by the model's
choice, READ BOARD give a line's name as ten characters without a length byte (log 33). -/
def LeaderImage.bytes (m : LeaderImage) : List Byte :=
  [m.mode.code] ++ (m.lines.map formLine).flatten ++ form2? m.countdown ++ form1? m.slot

/-- The values of an image. -/
def Image.bytes : Image → List Byte
  | .team m => m.bytes
  | .leader m => m.bytes

/-- The type byte of a panel frame (R196). -/
def Image.panelType : Image → Byte
  | .team _ => 0x01
  | .leader _ => 0x02

/-- A frame down the panel chain: 0x5A, the bytes between, and their exclusive-or (R196). -/
def chainFrame (inner : List Byte) : List Byte := 0x5A :: inner ++ [xorAll inner]

/-- The bytes the panel chain carries (R196): a team panel frame, a leaderboard frame or a poll frame. -/
def Chain.bytes : Chain → List Byte
  | .free => []
  | .refresh address image _ => chainFrame (form1 address ++ [image.panelType] ++ image.bytes)
  | .poll address _ _ => chainFrame (form1 address ++ [0x03])

/-- A frame sent on the control link: start byte, L, kind, payload, check (R196). -/
def sentFrame (kind : Byte) (payload : List Byte) : List Byte :=
  linkStart :: BitVec.ofNat 8 (payload.length + 1) :: kind :: (payload ++ [checkFor kind payload])

/-- A reply frame: kind 0xA5; the kind answered, the reply code, the data (R185, R196). -/
def Reply.bytes (r : Reply) : List Byte := sentFrame 0xA5 (r.kind :: r.code.code :: r.data)

/-- A set of classes in two bytes: class c is bit c (R196). -/
def formClasses (x : BitVec 12) : List Byte := bytesOf 2 x.toNat

/-- A signed value received in two bytes (R196). -/
def scoreOf (x : BitVec 16) : Int := x.toInt

/-- A house total received in three bytes (R196). -/
def totalOf (x : BitVec 24) : Int := x.toInt

end Sys2Proof.Machine
end

