-- ==== Sys2Proof/Machine/Flags.lean ====
section
/-! DEFINITION. Events, the 12 class flags, the notice mask and the report queue (R189 to R192), and the report frames
with the data that each event's rule lists (R196). -/

namespace Sys2Proof.Machine

/-- A round is live (00_scope.md, 'Live'; R21). -/
def EngineState.live : EngineState → Bool
  | .idle | .cued => false
  | .reading | .opened | .settling | .floor | .tallying | .awaitKey | .paused => true

/-- A round is live. -/
def State.live (s : State) : Bool := s.engine.state.live

/-- The code of an event class, which is its bit in the flags and in the notice mask (R196). -/
def EventClass.place : EventClass → Nat
  | .round => 0 | .claim => 1 | .floor => 2 | .verdict => 3 | .timer => 4 | .tally => 5 | .score => 6 | .board => 7
  | .intake => 8 | .roster => 9 | .list => 10 | .link => 11

/-- The class of an event (R196, class and event codes). -/
def Event.cls : Event → EventClass
  | .roundStarted _ _ | .roundOpened _ _ _ | .roundPaused _ _ | .roundResumed _ _ | .roundTallying _
  | .roundAwaitingKey _ | .roundClosed _ _ _ _ _ _ _ _ _ => .round
  | .claim _ _ _ _ _ _ _ _ _ | .claimWithdrawn _ _ _ _ _ | .lineStuck _ _ | .lineCleared _ _ => .claim
  | .floorGranted _ _ _ _ _ _ _ => .floor
  | .verdictGiven _ _ _ _ _ => .verdict
  | .timerSecond _ | .timerWarning _ | .timerExpired _ _ _ => .timer
  | .tallyCounted _ _ _ _ _ _ _ _ | .tallyKeyed _ _ _ _ => .tally
  | .scoreChanged _ _ _ _ _ _ _ _ _ _ _ | .teamChanged _ _ _ _ | .freezeSet _ | .freezeReleased
  | .gameCommitted _ _ _ | .houseChanged _ _ _ _ _ => .score
  | .boardHeld _ | .revealStep _ _ _ | .revealComplete | .boardReleased _ | .checkComplete _ _ _ _ _ => .board
  | .badFrame _ _ | .overrun _ | .unknownHandset _ _ | .audienceFull _ => .intake
  | .handsetPresent _ _ _ | .batteryLow _ _ _ | .batteryOk _ _ _ => .roster
  | .listCued _ | .listIdle _ _ _ => .list
  | .linkFault _ _ | .queueOverflow _ => .link

/-- The event code within its class (R196, class and event codes). -/
def Event.code : Event → Byte
  | .roundStarted _ _ => 1
  | .roundOpened _ _ _ => 2
  | .roundPaused _ _ => 3
  | .roundResumed _ _ => 4
  | .roundTallying _ => 5
  | .roundAwaitingKey _ => 6
  | .roundClosed _ _ _ _ _ _ _ _ _ => 7
  | .claim _ _ _ _ _ _ _ _ _ => 1
  | .claimWithdrawn _ _ _ _ _ => 2
  | .lineStuck _ _ => 3
  | .lineCleared _ _ => 4
  | .floorGranted _ _ _ _ _ _ _ => 1
  | .verdictGiven _ _ _ _ _ => 1
  | .timerSecond _ => 1
  | .timerWarning _ => 2
  | .timerExpired _ _ _ => 3
  | .tallyCounted _ _ _ _ _ _ _ _ => 1
  | .tallyKeyed _ _ _ _ => 2
  | .scoreChanged _ _ _ _ _ _ _ _ _ _ _ => 1
  | .teamChanged _ _ _ _ => 2
  | .freezeSet _ => 3
  | .freezeReleased => 4
  | .gameCommitted _ _ _ => 5
  | .houseChanged _ _ _ _ _ => 6
  | .boardHeld _ => 1
  | .revealStep _ _ _ => 2
  | .revealComplete => 3
  | .boardReleased _ => 4
  | .checkComplete _ _ _ _ _ => 5
  | .badFrame _ _ => 1
  | .overrun _ => 2
  | .unknownHandset _ _ => 3
  | .audienceFull _ => 4
  | .handsetPresent _ _ _ => 1
  | .batteryLow _ _ _ => 2
  | .batteryOk _ _ _ => 3
  | .listCued _ => 1
  | .listIdle _ _ _ => 2
  | .linkFault _ _ => 1
  | .queueOverflow _ => 2

/-- When an event's report carries a round serial. -/
inductive SerialRule where
  /-- The event's rule names no serial. -/
  | never
  /-- Every event of the engine, the arbiter and the tally, and AUDIENCE FULL (R48, R111, R120, R125, R128). -/
  | always
  /-- STUCK and CLEARED: when a round is live (R56, R57). -/
  | whenLive
  /-- SCORE CHANGED: when the source is VERDICT, FALSE START or SHARE (R152). -/
  | ofSource (source : ScoreSource)
  deriving DecidableEq, Repr

/-- When an event's report carries a round serial (R48, R56, R57, R111, R120, R125, R128, R152). -/
def Event.serialRule : Event → SerialRule
  | .roundStarted _ _ | .roundOpened _ _ _ | .roundPaused _ _ | .roundResumed _ _ | .roundTallying _
  | .roundAwaitingKey _ | .roundClosed _ _ _ _ _ _ _ _ _ | .timerSecond _ | .timerWarning _ | .timerExpired _ _ _
  | .claim _ _ _ _ _ _ _ _ _ | .claimWithdrawn _ _ _ _ _ | .floorGranted _ _ _ _ _ _ _ | .verdictGiven _ _ _ _ _
  | .tallyCounted _ _ _ _ _ _ _ _ | .tallyKeyed _ _ _ _ | .audienceFull _ => .always
  | .lineStuck _ _ | .lineCleared _ _ => .whenLive
  | .scoreChanged _ source _ _ _ _ _ _ _ _ _ => .ofSource source
  | .teamChanged _ _ _ _ | .freezeSet _ | .freezeReleased | .gameCommitted _ _ _ | .houseChanged _ _ _ _ _
  | .boardHeld _ | .revealStep _ _ _ | .revealComplete | .boardReleased _ | .checkComplete _ _ _ _ _ | .badFrame _ _
  | .overrun _ | .unknownHandset _ _ | .handsetPresent _ _ _ | .batteryLow _ _ _ | .batteryOk _ _ _ | .listCued _
  | .listIdle _ _ _ | .linkFault _ _ | .queueOverflow _ => .never

/-- The round serial that a report of an event carries as it is raised (R196: the first byte of its data). -/
def State.serialFor (s : State) (e : Event) : Option (BitVec 8) :=
  match e.serialRule with
  | .never => none
  | .always => some s.engine.serial
  | .whenLive => if s.live then some s.engine.serial else none
  | .ofSource source =>
    match source with
    | .verdict | .falseStart | .share => some s.engine.serial
    | .adjust | .set => none

/-- The seven answer counts, two bytes each (R116, R196). -/
def AnswerCounts.bytes (c : AnswerCounts) : List Byte :=
  form2 c.recorded ++ form2 c.changed ++ form2 c.ignored ++ form2 c.paused ++ form2 c.early ++ form2 c.late
    ++ form2 c.audienceFull

/-- The three bytes of a claim's stamp: the clock value, or for a stamp below 0 the free code (log 11). -/
def formStamp (stamp : Int) (code : BitVec 24) : List Byte :=
  if stamp < 0 then bytesOf 3 code.toNat else form3 stamp.toNat

/-- The values an event carries, in the order its rule lists them (R196), less the round serial. In GAME COMMITTED a
house's applied change takes the 3 bytes of a house total, which is the model's choice: R196 names no form for it
(log 43). -/
def Event.values : Event → List Byte
  | .roundStarted slot kind => form1 slot.val ++ [kind.code]
  | .roundOpened slot openTime tieStart => form1 slot.val ++ form3 openTime ++ form1? tieStart
  | .roundPaused remembered clock => [remembered.code] ++ form3 clock
  | .roundResumed state clock => [state.code] ++ form3 clock
  | .roundTallying closeMark => form3 closeMark
  | .roundAwaitingKey slot => form1 slot.val
  | .roundClosed slot kind outcome winner claims left grants wrong duration =>
    form1 slot.val ++ [kind.code, outcome.code] ++ form1? winner ++ form1 claims ++ form1 left ++ form1 grants
      ++ form1 wrong ++ form2 duration
  | .timerSecond seconds => form2 seconds
  | .timerWarning seconds => form1 seconds
  | .timerExpired timer expiryStamp team => [timer.code] ++ form3? expiryStamp ++ form1? team
  | .claim team outcome stamp code source arrival number place oldStamp =>
    form1 team ++ [outcome.code] ++ formStamp stamp code ++ formSource source ++ form3? arrival ++ form1? number
      ++ form1? place ++ form3? oldStamp
  | .claimWithdrawn team stamp source number reason =>
    form1 team ++ form3 stamp ++ formSource source ++ form1 number ++ [reason.code]
  | .lineStuck line left => form1 line ++ [left.code]
  | .lineCleared line count => form1 line ++ form2 count
  | .floorGranted team stamp source number grants window left =>
    form1 team ++ form3 stamp ++ formSource source ++ form1 number ++ form1 grants ++ form1 window ++ form1 left
  | .verdictGiven team v stamp wrong follows =>
    form1 team ++ [v.code] ++ form3 stamp ++ form1 wrong ++ [follows.code]
  | .tallyCounted slot kind counts total percents key teams answers =>
    form1 slot.val ++ [kind.code] ++ form1 counts.length ++ (counts.map form2).flatten ++ form2 total
      ++ form1 percents.length ++ (percents.map form1).flatten ++ formCode? (key.map RoundKey.code) ++ form1? teams
      ++ answers.bytes
  | .tallyKeyed slot key count teams => form1 slot.val ++ [key.code] ++ form2 count ++ form1 teams
  | .scoreChanged team source v award applied score clamped streak sequence position rank =>
    form1 team ++ [source.code] ++ formCode? (v.map Verdict.code) ++ formScore? award ++ formScore applied
      ++ formScore score ++ formBool clamped ++ form1 streak ++ form3 sequence ++ form1? position ++ form1? rank
  | .teamChanged team playing house position => form1 team ++ formBool playing ++ form1 house ++ form1? position
  | .freezeSet counter => form3 counter
  | .freezeReleased => []
  | .gameCommitted method teams houses =>
    [method.code] ++ form1 teams
      ++ (houses.map fun h => formTotal h.sum ++ formTotal h.applied ++ formTotal h.total ++ form1 h.games).flatten
  | .houseChanged house shown total games place =>
    form1 house ++ formBool shown ++ formTotal total ++ form1 games ++ form1? place
  | .boardHeld playing => form1 playing
  | .revealStep cursor team line => form1 cursor ++ form1? team ++ form1? line
  | .revealComplete => []
  | .boardReleased left => [left.code]
  | .checkComplete presences present fault missing changed =>
    presences.map Presence.code ++ form1 present ++ form1 fault ++ form1 missing ++ form1 changed
  | .badFrame reason receiver => [reason.code] ++ form1? receiver
  | .overrun receiver => form1 receiver
  | .unknownHandset handset receiver => form2 handset.toNat ++ form1 receiver
  | .audienceFull handset => form2 handset.toNat
  | .handsetPresent handset team seat => form2 handset.toNat ++ form1 team ++ form1 seat
  | .batteryLow handset team seat => form2 handset.toNat ++ form1 team ++ form1 seat
  | .batteryOk handset team seat => form2 handset.toNat ++ form1 team ++ form1 seat
  | .listCued slot => form1 slot.val
  | .listIdle slot reason basis => form1 slot.val ++ [reason.code, basis.code]
  | .linkFault reason kind => [reason.code] ++ formCode? kind
  | .queueOverflow dropped => form1 dropped

/-- The data of a report: the round serial first where the event's rule names one, 0xFF where it does not apply, then
the event's values (R196). -/
def Report.data (r : Report) : List Byte :=
  (if r.event.serialRule = .never then [] else formCode? r.serial) ++ r.event.values

/-- A report frame: kind 0xA6; class code, event code, data (R196). -/
def Report.bytes (r : Report) : List Byte :=
  sentFrame 0xA6 (BitVec.ofNat 8 r.event.cls.place :: r.event.code :: r.data)

/-- The bytes the transmit line carries (R186). -/
def TransmitLine.bytes : TransmitLine → List Byte
  | .free => []
  | .reply r => r.bytes
  | .report r => r.bytes

/-- The most reports the queue holds (R191). -/
def queueLimit : Nat := 48

/-- A report put at the back of the queue, or dropped into the lost mark and the dropped count when the queue holds 48
(R191). -/
def Link.enqueue (l : Link) (r : Report) : Link :=
  if queueLimit ≤ l.queue.length then { l with lost := true, dropped := bump 255 l.dropped }
  else { l with queue := l.queue ++ [r] }

/-- The bit of a class. -/
def EventClass.bit (c : EventClass) : BitVec 12 := BitVec.twoPow 12 c.place

/-- The link with a class flag set, and the report queued when the class is enabled (R189). -/
def Link.note (l : Link) (r : Report) : Link :=
  let l := { l with flags := l.flags ||| r.event.cls.bit }
  if l.mask.getLsbD r.event.cls.place then l.enqueue r else l

/-- An event is raised (R189): its class flag is set, whatever the mask holds, and its report is queued when the class
is enabled at that moment. -/
def State.raise (s : State) (e : Event) : State := s.setLink (s.link.note ⟨s.serialFor e, e⟩)

/-- Events raised one after another. -/
def State.raiseAll (s : State) (events : List Event) : State := events.foldl State.raise s

/-- A report has left the queue: with the lost mark set, QUEUE OVERFLOW is raised into the freed place, and the mark
and the count are cleared (R191). -/
def State.tellOverflow (s : State) : State :=
  if s.link.lost then
    let s := s.raise (.queueOverflow s.link.dropped)
    s.setLink { s.link with lost := false, dropped := 0 }
  else s

end Sys2Proof.Machine
end

