-- ==== Sys2Proof/Machine/Ops.lean ====
section
/-! DEFINITION. The named operations that the families share: reading and replacing one record of a unit, the round
context, what carrying out a command gives, and the control link's side of a command (R183 to R186). -/

namespace Sys2Proof.Machine

/-- What a step answers. -/
abbrev Outcome := Host.Outcome State Fault Refusal

/-! ### Reading and replacing one record -/

/-- The teams, and with them the console lines and the team panels: 1 to 24, ascending. -/
def teamNumbers : List Nat := (List.range teamCount).map (· + 1)

/-- The houses 1 to 6, ascending (R155). -/
def houseNumbers : List Nat := (List.range 6).map (· + 1)

/-- The slot with a number (R1). -/
def State.slotAt (s : State) (k : Fin 128) : Slot := s.list.slots.getD k.val Slot.blank

/-- The state with one slot replaced. -/
def State.setSlot (s : State) (k : Fin 128) (x : Slot) : State :=
  s.setList { s.list with slots := s.list.slots.set k.val x }

/-- The record of a console line (R51). -/
def State.lineAt (s : State) (n : Nat) : LineRecord := s.consoles.records.getD (n - 1) LineRecord.reset

/-- The state with the record of one console line replaced. -/
def State.setLineAt (s : State) (n : Nat) (x : LineRecord) : State :=
  s.setConsoles { s.consoles with records := s.consoles.records.set (n - 1) x }

/-- The state with the FLOOR lamp of a team replaced (R63). -/
def State.setFloorLamp (s : State) (t : Nat) (x : LampState) : State :=
  s.setConsoles { s.consoles with floorLamps := s.consoles.floorLamps.set (t - 1) x }

/-- The state with the LOCK lamp of a team replaced (R64). -/
def State.setLockLamp (s : State) (t : Nat) (x : LampState) : State :=
  s.setConsoles { s.consoles with lockLamps := s.consoles.lockLamps.set (t - 1) x }

/-- The state with all 48 lamps OFF (R47, R67). -/
def State.lampsOff (s : State) : State :=
  s.setConsoles
    { s.consoles with floorLamps := List.replicate teamCount .off, lockLamps := List.replicate teamCount .off }

/-- A team record (R132). -/
def Standings.teamAt (x : Standings) (t : Nat) : TeamRecord := x.teams.getD (t - 1) TeamRecord.reset

/-- A house record (R155). -/
def Standings.houseAt (x : Standings) (h : Nat) : HouseRecord := x.houses.getD (h - 1) HouseRecord.reset

/-- A receiver record (R71). -/
def State.receiverAt (s : State) (r : Nat) : Receiver := s.intake.receivers.getD r ⟨false, 0, 0, 0⟩

/-- The state with one receiver record replaced. -/
def State.setReceiverAt (s : State) (r : Nat) (x : Receiver) : State :=
  s.setIntake { s.intake with receivers := s.intake.receivers.set r x }

/-- A panel record (R165). -/
def Board.panelAt (b : Board) (a : Nat) : PanelRecord := b.panels.getD a ⟨none, .missing, false, 0, false⟩

/-- The driver with one panel record replaced. -/
def Board.setPanelAt (b : Board) (a : Nat) (x : PanelRecord) : Board := { b with panels := b.panels.set a x }

/-! ### The engine and its context -/

/-- The context read while no round context exists (R49): no value of it is a round's. -/
def Context.blank : Context :=
  ⟨0, .none, 0, none, false, none, none, 0, 0, 0, List.replicate teamCount none, none, 0, none, none, none,
    false⟩

/-- The round context (R23). -/
def State.context (s : State) : Context := s.engine.round.getD Context.blank

/-- The state with the round context, if there is one, changed by a function. -/
def State.mapContext (s : State) (f : Context → Context) : State :=
  s.setEngine { s.engine with round := s.engine.round.map f }

/-- The descriptor of the round: the engine reads it from the slot whenever it needs it (R24). -/
def State.setup (s : State) : Descriptor := (s.slotAt s.context.slot).setup

/-- The engine state, or the remembered state while the engine is PAUSED (R93, R94, R117). -/
def State.phase (s : State) : EngineState :=
  if s.engine.state = .paused then s.engine.remembered.getD .paused else s.engine.state

/-- The engine's paused mark (R27). -/
def State.pausedMark (s : State) : Bool := s.engine.state = .paused

/-- The state with the engine in another state. -/
def State.enter (s : State) (x : EngineState) : State := s.setEngine { s.engine with state := x }

/-- A round of a kind is live. -/
def State.liveKind (s : State) (k : RoundKind) : Bool := s.live && s.context.kind = k

/-- A team is in a set of teams: team t is bit t − 1 (R196). -/
def inSet (teams : BitVec 24) (t : Nat) : Bool := isTeamNumber t && teams.getLsbD (t - 1)

/-- A team is playing (R132). -/
def Standings.isPlaying (x : Standings) (t : Nat) : Bool := isTeamNumber t && (x.teamAt t).playing

/-- A team is in the round's team set and playing (R93, R107, R119). -/
def State.inPlay (s : State) (t : Nat) : Bool := inSet s.setup.teamSet t && s.standings.isPlaying t

/-- The reason a team is in the lock set for, if it is (R96). -/
def Context.lockOf (c : Context) (t : Nat) : Option LockReason := c.locks.getD (t - 1) none

/-- A stored time in seconds, in ms (R2). -/
def secondsMs (x : BitVec 8) : Nat := x.toNat * 1000

/-- The time limit T in ms (R2): tenths of a second. -/
def Descriptor.timeLimitMs (d : Descriptor) : Nat := d.timeLimit.toNat * 100

/-- R73: the intake FIFO holds an entry of the current round that arrived at or before a clock value. -/
def State.intakeHolds (s : State) (at_ : Nat) : Bool :=
  s.intake.fifo.any fun e =>
    e.serial = s.engine.serial && (match e.arrival with | some a => a ≤ at_ | none => false)

/-! ### Carrying a command out (R184, R185) -/

/-- What carrying out a command gives: the state it leaves, the reply code and the reply's data. -/
structure Carried where
  state : State
  code : ReplyCode
  data : List Byte
  deriving DecidableEq, Repr

/-- Accepted and complete, with data (R185). -/
def State.done (s : State) (data : List Byte) : Carried := ⟨s, .done, data⟩

/-- Accepted, completion told later by a report (R185). -/
def State.taken (s : State) (data : List Byte) : Carried := ⟨s, .taken, data⟩

/-- Refused, with no data (R185). -/
def State.refuse (s : State) (code : ReplyCode) : Carried := ⟨s, code, []⟩

/-- Refused OUT OF RANGE with the number of the failing field (R7, R9, R185). -/
def State.refuseField (s : State) (field : Nat) : Carried := ⟨s, .outOfRange, form1 field⟩

/-- The reply is made: it waits for the line, its frame counts as carried out, and the rate window closes for any code
but BAD CHECK (R182, R184). -/
def State.reply (s : State) (r : Reply) : State :=
  s.setLink
    { s.link with
      reply := some r, carriedOut := true, rateWindow := s.link.rateWindow && r.code = .badCheck }

/-- The state after a command has been carried out and its reply made (R185). -/
def Carried.answered (c : Carried) (kind : Byte) : State := c.state.reply ⟨kind, c.code, c.data⟩

/-! ### Receiving on the control link (R181, R183, R184) -/

/-- The most ms between two bytes of a frame (R183). -/
def linkGapLimit : Nat := 20

/-- In SINGLE-WIRE the receiver is off while the part transmits, a fetch included (R183, R187). -/
def Link.deaf (l : Link) : Bool :=
  l.mode = .singleWire && (l.line ≠ .free || (0 < l.fetchLeft && l.reply = none))

/-- The kind byte of a frame being received, once it has arrived (R192). -/
def kindReceived : List Byte → Option Byte
  | _ :: kind :: _ => some kind
  | _ => none

/-- The frame that these bytes after the start byte complete: L, then L bytes and the check byte (R183). -/
def LinkFrame.ofReceived : List Byte → Option LinkFrame
  | length :: kind :: rest =>
    if rest.length = length.toNat then some ⟨kind, rest.dropLast, rest.getLastD 0⟩ else none
  | _ => none

/-- A complete frame joins the receive buffer, or is discarded with LINK FAULT BUFFER FULL when it holds two (R184). -/
def State.frameComplete (s : State) (f : LinkFrame) : State :=
  if s.link.buffer.length < 2 then s.setLink { s.link with buffer := s.link.buffer ++ [f] }
  else s.raise (.linkFault .bufferFull (some f.kind))

/-- A byte outside a frame: 0xC3 begins one, every other byte is ignored (R183). -/
def State.linkByteOutside (s : State) (b : Byte) : State :=
  if b = linkStart then s.setLink { s.link with receiving := some [], gap := 0 } else s

/-- No frame is being received. -/
def State.linkWaits (s : State) : State := s.setLink { s.link with receiving := none, gap := 0 }

/-- A byte inside a frame, after the bytes `received`: the length byte may abandon the frame, the check byte completes
it (R183). -/
def State.linkByteInside (s : State) (received : List Byte) (b : Byte) : State :=
  if received = [] && (b = 0 || 63 < b.toNat) then s.linkWaits.raise (.linkFault .length none)
  else
    match LinkFrame.ofReceived (received ++ [b]) with
    | some f => s.linkWaits.frameComplete f
    | none => s.setLink { s.link with receiving := some (received ++ [b]), gap := 0 }

/-- A frame abandoned after a gap (R183, R192). -/
def State.linkGapAbandon (s : State) (received : List Byte) : State :=
  s.linkWaits.raise (.linkFault .gap (kindReceived received))

/-- A link mode is selected, and the rate window opens (R181). -/
def State.selectMode (s : State) (m : LinkMode) : State := s.setLink { s.link with mode := m, rateWindow := true }

/-- A byte received in LISTEN (R181). -/
def State.listenByte (s : State) (b : Byte) : State :=
  if b = 0x6C then s.selectMode .singleWire else if b = 0x93 then s.selectMode .twoWire else s

/-- A byte received on the control link (R181, R183). -/
def State.linkByte (s : State) (b : Byte) : State :=
  if s.link.mode = .listen then s.listenByte b
  else if s.link.deaf then s
  else
    match s.link.receiving with
    | none => s.linkByteOutside b
    | some received =>
      if linkGapLimit < s.link.gap then (s.linkGapAbandon received).linkByteOutside b else s.linkByteInside received b

/-- Bytes received one after another. -/
def State.linkBytes (s : State) (bytes : List Byte) : State := bytes.foldl State.linkByte s

/-- What is still to come of `whole` when `already` has been received, if `already` is its beginning. -/
def stillToCome (whole already : List Byte) : Option (List Byte) :=
  if already.isPrefixOf whole then some (whole.drop already.length) else none

/-- The bytes of a frame that are still to come: all of them, less those of it that the link has received (R183). -/
def Link.bytesToCome (l : Link) (bytes : List Byte) : List Byte :=
  match l.receiving with
  | none => bytes
  | some received => (stillToCome bytes (linkStart :: received)).getD bytes

/-- The rest of a frame arrives. In LISTEN no frame is assembled (R181, log 3). -/
def State.receiveFrame (s : State) (f : LinkFrame) : State :=
  if s.link.mode = .listen then s else s.linkBytes (s.link.bytesToCome f.bytes)

/-! ### The front of the receive buffer (R184, R185, R194) -/

/-- The frame that the link is to carry out next: the oldest in the buffer, unless it has been carried out already and
its reply is still to be sent in full, or a show reset comes before it (R184, R194). -/
def State.frontFrame (s : State) : Option LinkFrame :=
  if s.link.mode = .listen || s.link.carriedOut || s.link.showReset = .due then none else s.link.buffer.head?

/-- The command that the link is to carry out next: the front frame's, when it passes the checks of R185. -/
def State.waitingCommand (s : State) : Option Instr := s.frontFrame.bind LinkFrame.command

/-- The state in which a desk command is to be carried out: where it does not wait at the front of the buffer, its
frame arrives first (log 3). -/
def State.bring (s : State) (i : Instr) : State :=
  if s.waitingCommand = some i then s
  else
    match i.frame with
    | some f => s.receiveFrame f
    | none => s

/-- The step of a desk command: the command at the front of the buffer is carried out whole and answered (R184,
R185). A command that has to wait behind another, or whose frame is lost, is not carried out in this step (log 3). -/
def desk (i : Instr) (carry : State → Carried) (s : State) : Outcome :=
  .next
    (if (s.bring i).waitingCommand = some i then (carry (s.bring i)).answered (i.kindByte.getD 0) else s.bring i)

end Sys2Proof.Machine
end

