-- ==== Sys2Proof/Machine/Standings.lean ====
section
/-! DEFINITION. The Standings Unit (07_scoring_and_standings.md): score change requests, the award, the ranking, and
the commands SET TEAM, ADJUST SCORE, SET SCORE, SET TIE DISPLAY, FREEZE, UNFREEZE and READ STANDINGS. -/

namespace Sys2Proof.Machine

/-! ### The ranking (R145 to R147) -/

/-- Team `t` with record `a` comes before team `u` with record `b` in the order of R145. -/
def TeamRecord.before (a : TeamRecord) (t : Nat) (b : TeamRecord) (u : Nat) : Bool :=
  b.score < a.score || (a.score = b.score &&
    (b.correct < a.correct || (a.correct = b.correct &&
      (a.sequence < b.sequence || (a.sequence = b.sequence && t < u)))))

/-- The teams that are playing, ascending. -/
def Standings.playingTeams (x : Standings) : List Nat := teamNumbers.filter x.isPlaying

/-- n, the number of playing teams (R146). -/
def Standings.playingCount (x : Standings) : Nat := x.playingTeams.length

/-- A team's position: its place, from 1, in the order of R145 among the playing teams; absent when it is not playing
(R146). -/
def Standings.position (x : Standings) (t : Nat) : Option Nat :=
  if x.isPlaying t then
    some (1 + x.playingTeams.countP fun u => (x.teamAt u).before u (x.teamAt t) t)
  else none

/-- A team's shown rank under the tie display option (R147). -/
def Standings.rank (x : Standings) (t : Nat) : Option Nat :=
  match x.tie with
  | .strict => x.position t
  | .shared =>
    if x.isPlaying t then some (1 + x.playingTeams.countP fun u => (x.teamAt t).score < (x.teamAt u).score) else none

/-- The team at a position, if there is one (R146). -/
def Standings.teamAtPosition (x : Standings) (p : Nat) : Option Nat :=
  teamNumbers.find? fun t => x.position t = some p

/-! ### Score changes (R137 to R144) -/

/-- How a request moves the score: by a delta, or to a target (R137). -/
inductive ScoreMove where
  | by (delta : Int)
  | target (score : Int)
  deriving DecidableEq, Repr

/-- A score change request (R137). `verdict` is present for source VERDICT, and `award` for RIGHT. -/
structure ScoreRequest where
  team : Nat
  source : ScoreSource
  verdict : Option Verdict
  award : Option Int
  move : ScoreMove
  deriving DecidableEq, Repr

/-- The new score before clamping (R138). -/
def ScoreMove.wanted (m : ScoreMove) (score : Int) : Int :=
  match m with
  | .by delta => score + delta
  | .target x => x

/-- A value clamped to the score range (R138). -/
def clampScore (x : Int) : Int := clampInt (-999) 9999 x

/-- The most the change counter counts (R139). -/
def counterMax : Nat := 16777215

/-- The streak of the request's team after it (R140). -/
def streakAfter (source : ScoreSource) (verdict : Option Verdict) (streak : Nat) : Nat :=
  match source with
  | .verdict =>
    match verdict with
    | some .right => min (streak + 1) 9
    | some .wrong | some .timeout => 0
    | none => streak
  | .falseStart => 0
  | .share | .adjust | .set => streak

/-- One more right answer (R140). -/
def correctAfter (verdict : Option Verdict) (n : Nat) : Nat := if verdict = some .right then bump 255 n else n

/-- One more wrong answer, a counted timeout among them (R140). -/
def wrongAfter (verdict : Option Verdict) (n : Nat) : Nat :=
  if verdict = some .wrong || verdict = some .timeout then bump 255 n else n

/-- What a request does to the record of its team, `counter` being the change counter after it (R138 to R140). -/
def TeamRecord.changed (r : TeamRecord) (q : ScoreRequest) (counter : Nat) : TeamRecord :=
  let wanted := q.move.wanted r.score
  let score := clampScore wanted
  { r with
    score := score
    clamped := score ≠ wanted
    sequence := if score = r.score then r.sequence else counter
    streak := streakAfter q.source q.verdict r.streak
    correct := correctAfter q.verdict r.correct
    wrong := wrongAfter q.verdict r.wrong }

/-- The applied delta of a request: the new score less the old (R138). -/
def ScoreRequest.applied (q : ScoreRequest) (x : Standings) : Int :=
  clampScore (q.move.wanted (x.teamAt q.team).score) - (x.teamAt q.team).score

/-- The change counter after a request (R139). -/
def ScoreRequest.counterAfter (q : ScoreRequest) (x : Standings) : Nat :=
  if q.applied x = 0 then x.counter else bump counterMax x.counter

/-- Every streak set to 0, as a RIGHT verdict does before it counts the team's own (R140). -/
def noStreaks (teams : List TeamRecord) : List TeamRecord := teams.map fun r => { r with streak := 0 }

/-- The unit after a request (R138 to R140); positions and ranks follow from it (R146, log 13). -/
def Standings.apply (x : Standings) (q : ScoreRequest) : Standings :=
  { x with
    teams := (if q.verdict = some .right then noStreaks x.teams else x.teams).set (q.team - 1)
      ((x.teamAt q.team).changed q (q.counterAfter x))
    counter := q.counterAfter x }

/-- The SCORE CHANGED event of a request (R152), `x` being the unit before it. -/
def ScoreRequest.event (q : ScoreRequest) (x : Standings) : Event :=
  let y := x.apply q
  let r := y.teamAt q.team
  .scoreChanged q.team q.source q.verdict q.award (q.applied x) r.score r.clamped r.streak r.sequence
    (y.position q.team) (y.rank q.team)

/-- A score change request is dealt with whole (R137, R141). -/
def State.scoreChange (s : State) (q : ScoreRequest) : State :=
  (s.setStandings (s.standings.apply q)).raise (q.event s.standings)

/-- The bonus B for an answer time (R142, steps 1 and 2). -/
def bonus (d : Descriptor) (time : Nat) : Nat :=
  let window := d.bonusWindow.toNat * 100
  if window ≤ time then 0 else d.bonusMax.toNat * (window - time) / window

/-- The award of a RIGHT verdict (R142): from the floor stamp, open_time and the streak before the request. -/
def awardPoints (d : Descriptor) (stamp openTime streak : Nat) : Nat :=
  let raw := d.basePoints.toNat + bonus d (stamp - openTime)
  if d.streakScoring then raw * (10 + min streak 5) / 10 else raw

/-- The request of a RIGHT verdict (R105, R142). -/
def rightRequest (d : Descriptor) (x : Standings) (team stamp openTime : Nat) : ScoreRequest :=
  let award : Int := awardPoints d stamp openTime (x.teamAt team).streak
  ⟨team, .verdict, some .right, some award, .by award⟩

/-- The request of a WRONG verdict or a counted TIMEOUT: delta −Q (R106, R144). -/
def wrongRequest (d : Descriptor) (team : Nat) (v : Verdict) : ScoreRequest :=
  ⟨team, .verdict, some v, none, .by (-(d.penalty.toNat : Int))⟩

/-- The request of a penalised false start: delta −Q (R95, R144). -/
def falseStartRequest (d : Descriptor) (team : Nat) : ScoreRequest :=
  ⟨team, .falseStart, none, none, .by (-(d.penalty.toNat : Int))⟩

/-- The request of a share (R126). -/
def shareRequest (team share : Nat) : ScoreRequest := ⟨team, .share, none, none, .by share⟩

/-! ### Resets and the clearing of a game -/

/-- A team record with its game cleared; name, playing value and house are kept (R154, R162). -/
def TeamRecord.cleared (r : TeamRecord) : TeamRecord :=
  { r with score := 0, streak := 0, correct := 0, wrong := 0, sequence := 0, clamped := false }

/-- The game standings cleared and the freeze released (R154, R162). -/
def Standings.cleared (x : Standings) : Standings :=
  { x with teams := x.teams.map TeamRecord.cleared, counter := 0, frozen := false }

/-! ### The commands -/

/-- A character of a name as it is stored (R134). -/
def nameChar (c : Byte) : Byte := if 0x20 ≤ c.toNat && c.toNat ≤ 0x7E then c else 0x20

/-- A name as it is stored; none when its length is not 1..10 (R134). -/
def storedName (length : Byte) (chars : List Byte) : Option (List Byte) :=
  if 1 ≤ length.toNat && length.toNat ≤ 10 then some ((chars.take length.toNat).map nameChar) else none

/-- A team number of a command, 1..24. -/
def teamOf (b : Byte) : Option Nat := if isTeamNumber b.toNat then some b.toNat else none

/-- An accepted SET TEAM (R135, R136). -/
def State.storeTeam (s : State) (t : Nat) (name : List Byte) (playing : Bool) (house : Nat) : Carried :=
  let x := s.standings
  let y := { x with
    teams := x.teams.set (t - 1) { x.teamAt t with name := name, playing := playing, house := house } }
  ((s.setStandings y).raise (.teamChanged t playing house (y.position t))).done (form1? (y.position t))

/-- SET TEAM (R135): frozen first, then the values, then a change of playing in a live round. -/
def carrySetTeam (team nameLength : Byte) (name : List Byte) (playing house : Byte) (s : State) : Carried :=
  if s.standings.frozen then s.refuse .frozen
  else
    match teamOf team, boolOfCode playing, storedName nameLength name with
    | some t, some p, some n =>
      if 6 < house.toNat then s.refuse .outOfRange
      else if s.live && p ≠ (s.standings.teamAt t).playing then s.refuse .wrongState
      else s.storeTeam t n p house.toNat
    | _, _, _ => s.refuse .outOfRange

/-- R134 to R136. -/
def execSetTeam (team nameLength : Byte) (name : List Byte) (playing house : Byte) (s : State) : Outcome :=
  desk (.setTeam team nameLength name playing house) (carrySetTeam team nameLength name playing house) s

/-- A desk correction: the request is made, and the reply carries applied delta, new score and position (R148,
R149). -/
def State.correct (s : State) (q : ScoreRequest) : Carried :=
  let y := s.standings.apply q
  (s.scoreChange q).done
    (formScore (q.applied s.standings) ++ formScore (y.teamAt q.team).score ++ form1? (y.position q.team))

/-- ADJUST SCORE (R148). -/
def carryAdjustScore (team : Byte) (delta : BitVec 16) (s : State) : Carried :=
  if s.standings.frozen then s.refuse .frozen
  else
    match teamOf team with
    | some t =>
      if -9999 ≤ scoreOf delta && scoreOf delta ≤ 9999 then
        s.correct ⟨t, .adjust, none, none, .by (scoreOf delta)⟩
      else s.refuse .outOfRange
    | none => s.refuse .outOfRange

/-- R148. -/
def execAdjustScore (team : Byte) (delta : BitVec 16) (s : State) : Outcome :=
  desk (.adjustScore team delta) (carryAdjustScore team delta) s

/-- SET SCORE (R149). -/
def carrySetScore (team : Byte) (target : BitVec 16) (s : State) : Carried :=
  if s.standings.frozen then s.refuse .frozen
  else
    match teamOf team with
    | some t =>
      if -999 ≤ scoreOf target && scoreOf target ≤ 9999 then
        s.correct ⟨t, .set, none, none, .target (scoreOf target)⟩
      else s.refuse .outOfRange
    | none => s.refuse .outOfRange

/-- R149. -/
def execSetScore (team : Byte) (target : BitVec 16) (s : State) : Outcome :=
  desk (.setScore team target) (carrySetScore team target) s

/-- SET TIE DISPLAY (R147). -/
def carrySetTieDisplay (option : Byte) (s : State) : Carried :=
  match TieDisplay.ofCode option with
  | some x => (s.setStandings { s.standings with tie := x }).done []
  | none => s.refuse .outOfRange

/-- R147. -/
def execSetTieDisplay (option : Byte) (s : State) : Outcome :=
  desk (.setTieDisplay option) (carrySetTieDisplay option) s

/-- FREEZE (R150). -/
def carryFreeze (s : State) : Carried :=
  if s.live then s.refuse .wrongState
  else if s.standings.frozen then s.done []
  else ((s.setStandings { s.standings with frozen := true }).raise (.freezeSet s.standings.counter)).done []

/-- R150. -/
def execFreeze (s : State) : Outcome := desk .freeze carryFreeze s

/-- UNFREEZE (R150). -/
def carryUnfreeze (s : State) : Carried :=
  if s.standings.frozen then
    ((s.setStandings { s.standings with frozen := false }).raise .freezeReleased).done []
  else s.done []

/-- R150. -/
def execUnfreeze (s : State) : Outcome := desk .unfreeze carryUnfreeze s

/-- The SUMMARY view (R151). -/
def Standings.summary (x : Standings) : List Byte :=
  form1 x.playingCount ++ form3 x.counter ++ formBool x.frozen ++ [x.tie.code]

/-- The TEAM view: the whole record of R132 (R151). -/
def Standings.teamView (x : Standings) (t : Nat) : List Byte :=
  let r := x.teamAt t
  formBool r.playing ++ formName r.name ++ form1 r.house ++ formScore r.score ++ form1 r.streak ++ form1 r.correct
    ++ form1 r.wrong ++ form3 r.sequence ++ formBool r.clamped ++ form1? (x.position t) ++ form1? (x.rank t)

/-- One position of the ORDER view; an empty one in the absent forms (R151, R196). -/
def Standings.orderView (x : Standings) (p : Nat) : List Byte :=
  match x.teamAtPosition p with
  | some t => form1 t ++ formScore (x.teamAt t).score ++ form1? (x.rank t) ++ formBool (x.teamAt t).clamped
  | none => form1? none ++ formScore? none ++ form1? none ++ [0xFF]

/-- The twelve numbers of half 1 (1..12) or half 2 (13..24). -/
def halfOf (b : Byte) : Option (List Nat) :=
  if b = 1 then some ((List.range 12).map (· + 1)) else if b = 2 then some ((List.range 12).map (· + 13)) else none

/-- READ STANDINGS (R151). -/
def carryReadStandings (view argument : Byte) (s : State) : Carried :=
  if view = 0 then (if argument = 0 then s.done s.standings.summary else s.refuse .outOfRange)
  else if view = 1 then
    match teamOf argument with
    | some t => s.done (s.standings.teamView t)
    | none => s.refuse .outOfRange
  else if view = 2 then
    match halfOf argument with
    | some ps => s.done (ps.map s.standings.orderView).flatten
    | none => s.refuse .outOfRange
  else s.refuse .outOfRange

/-- R151. -/
def execReadStandings (view argument : Byte) (s : State) : Outcome :=
  desk (.readStandings view argument) (carryReadStandings view argument) s

end Sys2Proof.Machine
end

