-- ==== Sys2Proof/Machine/Houses.lean ====
section
/-! DEFINITION. The house cup (08_the_house_cup.md): SET HOUSE, SET PLACE POINTS, COMMIT GAME and READ HOUSES. -/

namespace Sys2Proof.Machine

/-- The houses with shown YES, ascending (R159). -/
def Standings.shownHouses (x : Standings) : List Nat := houseNumbers.filter fun h => (x.houseAt h).shown

/-- House `g` comes before house `h` in the order of R159. -/
def Standings.houseBefore (x : Standings) (g h : Nat) : Bool :=
  (x.houseAt h).total < (x.houseAt g).total || ((x.houseAt g).total = (x.houseAt h).total && g < h)

/-- A shown house's place in the order of R159, from 1. -/
def Standings.houseOrder (x : Standings) (h : Nat) : Option Nat :=
  if (x.houseAt h).shown then some (1 + x.shownHouses.countP fun g => x.houseBefore g h) else none

/-- A house's place under the tie display option (R159). -/
def Standings.place (x : Standings) (h : Nat) : Option Nat :=
  match x.tie with
  | .strict => x.houseOrder h
  | .shared =>
    if (x.houseAt h).shown then
      some (1 + x.shownHouses.countP fun g => (x.houseAt h).total < (x.houseAt g).total)
    else none

/-- The playing teams that belong to a house (R156, R161). -/
def Standings.members (x : Standings) (h : Nat) : List Nat := x.playingTeams.filter fun t => (x.teamAt t).house = h

/-- A house total's range (R155). -/
def houseTotalOk (x : Int) : Bool := -99999 ≤ x && x ≤ 999999

/-- An accepted SET HOUSE (R157). -/
def State.storeHouse (s : State) (h : Nat) (r : HouseRecord) : Carried :=
  let y := { s.standings with houses := s.standings.houses.set (h - 1) r }
  ((s.setStandings y).raise (.houseChanged h r.shown r.total r.games (y.place h))).done (form1? (y.place h))

/-- SET HOUSE (R157). -/
def carrySetHouse (house nameLength : Byte) (name : List Byte) (shown : Byte) (total : BitVec 24) (games : Byte)
    (s : State) : Carried :=
  match storedName nameLength name, boolOfCode shown with
  | some n, some p =>
    if 1 ≤ house.toNat && house.toNat ≤ 6 && houseTotalOk (totalOf total) then
      s.storeHouse house.toNat ⟨n, p, totalOf total, games.toNat⟩
    else s.refuse .outOfRange
  | _, _ => s.refuse .outOfRange

/-- R157. -/
def execSetHouse (house nameLength : Byte) (name : List Byte) (shown : Byte) (total : BitVec 24) (games : Byte)
    (s : State) : Outcome :=
  desk (.setHouse house nameLength name shown total games) (carrySetHouse house nameLength name shown total games) s

/-- SET PLACE POINTS (R158). -/
def carrySetPlacePoints (points : List Byte) (s : State) : Carried :=
  if points.all fun p => p.toNat ≤ 100 then
    (s.setStandings { s.standings with placePoints := points.map BitVec.toNat }).done []
  else s.refuse .outOfRange

/-- R158. -/
def execSetPlacePoints (points : List Byte) (s : State) : Outcome :=
  desk (.setPlacePoints points) (carrySetPlacePoints points) s

/-! ### Committing a game (R160 to R162) -/

/-- The contribution of a playing team to its house (R161). -/
def Standings.contribution (x : Standings) (m : CommitMethod) (t : Nat) : Int :=
  match m with
  | .score => (x.teamAt t).score
  | .places =>
    match x.position t with
    | some p => if p ≤ 8 then (x.placePoints.getD (p - 1) 0 : Nat) else 0
    | none => 0

/-- The sum of the contributions to a house (R161). -/
def Standings.houseSum (x : Standings) (m : CommitMethod) (h : Nat) : Int :=
  ((x.members h).map (x.contribution m)).sum

/-- A house total after a commit (R161): the clamp is applied once, to the whole sum. -/
def Standings.totalAfter (x : Standings) (m : CommitMethod) (h : Nat) : Int :=
  clampInt (-99999) 999999 ((x.houseAt h).total + x.houseSum m h)

/-- A house record after a commit (R161): a house with no contributing team is left as it is. -/
def Standings.houseAfter (x : Standings) (m : CommitMethod) (h : Nat) : HouseRecord :=
  if x.members h = [] then x.houseAt h
  else { x.houseAt h with total := x.totalAfter m h, games := bump 255 (x.houseAt h).games }

/-- The number of contributing teams (R161, R162). -/
def Standings.contributing (x : Standings) : Nat :=
  (x.playingTeams.filter fun t => 1 ≤ (x.teamAt t).house && (x.teamAt t).house ≤ 6).length

/-- What GAME COMMITTED carries for a house (R162). -/
def Standings.houseChange (x : Standings) (m : CommitMethod) (h : Nat) : HouseChange :=
  ⟨x.houseSum m h, (x.houseAfter m h).total - (x.houseAt h).total, (x.houseAfter m h).total, (x.houseAfter m h).games⟩

/-- The unit after a commit (R161, R162). -/
def Standings.committed (x : Standings) (m : CommitMethod) : Standings :=
  { x.cleared with houses := houseNumbers.map (x.houseAfter m) }

/-- An accepted COMMIT GAME (R161, R162). -/
def State.commit (s : State) (m : CommitMethod) : Carried :=
  ((s.setStandings (s.standings.committed m)).raise
      (.gameCommitted m s.standings.contributing (houseNumbers.map (s.standings.houseChange m)))).done
    (houseNumbers.map fun h => formTotal (s.standings.houseAfter m h).total).flatten

/-- COMMIT GAME (R160). -/
def carryCommitGame (method : Byte) (s : State) : Carried :=
  if !s.standings.frozen then s.refuse .wrongState
  else if s.live then s.refuse .wrongState
  else if s.board.state ≠ .live then s.refuse .busy
  else
    match CommitMethod.ofCode method with
    | some m => s.commit m
    | none => s.refuse .outOfRange

/-- R160 to R162. -/
def execCommitGame (method : Byte) (s : State) : Outcome := desk (.commitGame method) (carryCommitGame method) s

/-! ### Reading the houses (R163) -/

/-- One house of the RECORDS view. -/
def Standings.houseView (x : Standings) (h : Nat) : List Byte :=
  let r := x.houseAt h
  formName r.name ++ formBool r.shown ++ formTotal r.total ++ form1 r.games ++ form1? (x.place h)
    ++ form1 (x.members h).length

/-- One house of the PREVIEW view: the sum under SCORE and the sum under PLACES. -/
def Standings.previewView (x : Standings) (h : Nat) : List Byte :=
  formTotal (x.houseSum .score h) ++ formTotal (x.houseSum .places h)

/-- READ HOUSES (R163). -/
def carryReadHouses (view : Byte) (s : State) : Carried :=
  if view = 0 then s.done (houseNumbers.map s.standings.houseView).flatten
  else if view = 1 then s.done (s.standings.placePoints.map form1).flatten
  else if view = 2 then
    s.done ((houseNumbers.map s.standings.previewView).flatten ++ formBool s.standings.frozen ++ [s.board.state.code])
  else s.refuse .outOfRange

/-- R163. -/
def execReadHouses (view : Byte) (s : State) : Outcome := desk (.readHouses view) (carryReadHouses view) s

end Sys2Proof.Machine
end

