-- ==== Sys2Proof/Machine/Board.lean ====
section
/-! DEFINITION. The Board Driver (09_score_panels_and_the_panel_chain.md): live and target images, dirty marks, the
chain arbiter, the panel check, the winner blink, holding and revealing, and READ BOARD. -/

namespace Sys2Proof.Machine

/-! ### What the Round Engine hands over (R34) -/

/-- The slot number handed to the leaderboard: the current slot, blank while the engine is IDLE (R6, R34). -/
def State.slotShown (s : State) : Option Nat := if s.engine.state = .idle then none else some s.list.pointer.val

/-- The countdown handed to the leaderboard: the seconds shown of the round timer from entry to OPEN, blank in READING,
TALLYING and AWAIT KEY and with no round live (R34, log 5, log 13). -/
def State.countdown (s : State) : Option Nat :=
  match s.phase with
  | .opened | .settling | .floor => s.context.lastSecond
  | .idle | .cued | .reading | .tallying | .awaitKey | .paused => none

/-! ### Images (R166, R167) -/

/-- The live blink value: YES while the blink remaining is above 0 (R166, R172). -/
def PanelRecord.blinks (r : PanelRecord) : Bool := 0 < r.blinkLeft

/-- The live image of a team's panel (R166). -/
def State.liveTeamImage (s : State) (t : Nat) : TeamImage :=
  if s.standings.isPlaying t then
    ⟨some (s.standings.teamAt t).score, s.standings.rank t, (s.board.panelAt t).blinks⟩
  else ⟨none, none, (s.board.panelAt t).blinks⟩

/-- The live team line k (R166). -/
def Standings.teamLine (x : Standings) (k : Nat) : Option BoardLine :=
  (x.teamAtPosition k).map fun t => ⟨(x.rank t).getD 0, (x.teamAt t).name, (x.teamAt t).score⟩

/-- The live house line k: the house at place k of the house order (R159, R166). -/
def Standings.houseLine (x : Standings) (k : Nat) : Option BoardLine :=
  (houseNumbers.find? fun h => x.houseOrder h = some k).map fun h =>
    ⟨(x.place h).getD 0, (x.houseAt h).name, (x.houseAt h).total⟩

/-- The lines 1 to 8. -/
def lineNumbers : List Nat := (List.range 8).map (· + 1)

/-- The eight live lines of a mode (R166). -/
def Standings.lines (x : Standings) (m : BoardMode) : List (Option BoardLine) :=
  match m with
  | .teams => lineNumbers.map x.teamLine
  | .houses => lineNumbers.map x.houseLine

/-- The snapshot's lines of a mode (R173). -/
def Snapshot.lines (x : Snapshot) (m : BoardMode) : List (Option BoardLine) :=
  match m with
  | .teams => x.teamLines
  | .houses => x.houseLines

/-- The snapshot read while none is held: blank. No held mark is set then (R167). -/
def Snapshot.blank : Snapshot :=
  ⟨List.replicate teamCount (none, none), List.replicate 8 none, List.replicate 8 none⟩

/-- The held snapshot (R173). -/
def Board.held (b : Board) : Snapshot := b.snapshot.getD Snapshot.blank

/-- The target image of a team panel (R167). -/
def State.teamTarget (s : State) (t : Nat) : TeamImage :=
  if (s.board.panelAt t).held then
    ⟨(s.board.held.panels.getD (t - 1) (none, none)).1, (s.board.held.panels.getD (t - 1) (none, none)).2, false⟩
  else s.liveTeamImage t

/-- One line of the leaderboard's target (R167). -/
def State.targetLine (s : State) (k : Nat) : Option BoardLine :=
  if s.board.lineHeld.getD (k - 1) false then (s.board.held.lines s.board.mode).getD (k - 1) none
  else (s.standings.lines s.board.mode).getD (k - 1) none

/-- The leaderboard's target (R167). -/
def State.leaderTarget (s : State) : LeaderImage :=
  ⟨s.board.mode, lineNumbers.map s.targetLine, s.countdown, s.slotShown⟩

/-- The target image of the panel at an address (R165, R167). -/
def State.target (s : State) (a : Nat) : Image := if a = 0 then .leader s.leaderTarget else .team (s.teamTarget a)

/-- The dirty mark: set exactly while the target differs from the shown image (R165). -/
def State.dirty (s : State) (a : Nat) : Bool := (s.board.panelAt a).shown ≠ some (s.target a)

/-! ### The chain arbiter (R168 to R171) -/

/-- The addresses 0 to 24. -/
def addresses : List Nat := List.range 25

/-- A panel that refresh may send to: dirty, and PRESENT or FAULT (R168). -/
def State.wantsRefresh (s : State) (a : Nat) : Bool := s.dirty a && (s.board.panelAt a).presence ≠ .missing

/-- The address that refresh chooses: the first after the pointer, wrapping from 24 to 0 (R168). -/
def State.refreshChoice (s : State) : Option Nat :=
  ((List.range 25).map fun i => (s.board.pointer + 1 + i) % 25).find? s.wantsRefresh

/-- The panel check has work (R168). -/
def Board.checkWork (b : Board) : Bool :=
  match b.check with
  | some c => c.next ≤ 24
  | none => false

/-- The arbiter gives the free chain to a kind of work, `other` saying whether the other kind has work: with work of
both it begins the kind other than the one last completed (R168). Before any operation has completed either kind may
begin (log 9). -/
def Board.mayBegin (b : Board) (kind : ChainKind) (other : Bool) : Bool :=
  b.chain = .free && (!other || b.lastKind ≠ some kind)

/-- REFRESH_SEND_BEGIN (R168, R169): the target as it stands is kept with the send. -/
def State.beginRefresh (s : State) : State :=
  match s.refreshChoice with
  | some a =>
    if s.board.mayBegin .refresh s.board.checkWork then
      s.setBoard { s.board with chain := .refresh a (s.target a) false, pointer := a }
    else s
  | none => s

/-- R168, R169. -/
def execRefreshSendBegin (s : State) : Outcome := .next s.beginRefresh

/-- REFRESH_SEND_COMPLETE (R169): the shown image becomes the image sent, unless a show reset has come between
(R180). -/
def State.completeRefresh (s : State) : State :=
  match s.board.chain with
  | .refresh a image void =>
    let b := { s.board with chain := .free, lastKind := some .refresh }
    s.setBoard (if void then b else b.setPanelAt a { b.panelAt a with shown := some image })
  | .free | .poll _ _ _ => s

/-- R169. -/
def execRefreshSendComplete (s : State) : Outcome := .next s.completeRefresh

/-- POLL_BEGIN (R168, R170). -/
def State.beginPoll (s : State) : State :=
  match s.board.check with
  | some c =>
    if s.board.checkWork && s.board.mayBegin .poll s.refreshChoice.isSome then
      s.setBoard { s.board with chain := .poll c.next 0 false }
    else s
  | none => s

/-- R168, R170. -/
def execPollBegin (s : State) : Outcome := .next s.beginPoll

/-- A panel record after a poll (R171): a panel that was MISSING and answers has an absent shown image. -/
def PanelRecord.polled (r : PanelRecord) (p : Presence) : PanelRecord :=
  { r with presence := p, shown := if r.presence = .missing && p ≠ .missing then none else r.shown }

/-- How many addresses have a presence (R171). -/
def Board.countPresence (b : Board) (p : Presence) : Nat := addresses.countP fun a => (b.panelAt a).presence = p

/-- The BOARD CHECK COMPLETE event (R171, R179). -/
def Board.checkEvent (b : Board) (changed : Nat) : Event :=
  .checkComplete (addresses.map fun a => (b.panelAt a).presence) (b.countPresence .present) (b.countPresence .fault)
    (b.countPresence .missing) changed

/-- The driver after a poll has set a presence, with the next address to poll (R170, R171). -/
def Board.afterPoll (b : Board) (a : Nat) (p : Presence) (c : PanelCheck) : Board :=
  let changed := if (b.panelAt a).presence = p then c.changed else c.changed + 1
  { b.setPanelAt a ((b.panelAt a).polled p) with
    chain := .free, lastKind := some .poll, check := some ⟨c.next + 1, changed⟩ }

/-- A poll completes with a presence (R170, R171): after address 24 the check ends and BOARD CHECK COMPLETE is raised.
The poll of an abandoned check sets nothing (R180). -/
def State.completePoll (s : State) (p : Presence) : State :=
  match s.board.chain, s.board.check with
  | .poll a _ false, some c =>
    let b := s.board.afterPoll a p c
    if a = 24 then
      (s.setBoard { b with check := none }).raise (b.checkEvent ((b.check.map PanelCheck.changed).getD 0))
    else s.setBoard b
  | .poll _ _ _, _ => s.setBoard { s.board with chain := .free, lastKind := some .poll }
  | .free, _ => s
  | .refresh _ _ _, _ => s

/-- The start byte of a poll reply (R196). -/
def pollReplyStart : Byte := 0x5B

/-- The presence that a reply on the return line gives: none when it does not start as a poll reply, its check byte is
wrong or its value is neither of the two (R170, R196, log 25). -/
def replyPresence (head : ReplyHead) (status check : Byte) : Option Presence :=
  if head.start ≠ pollReplyStart then none
  else if check ≠ head.address ^^^ status then none
  else if status = 0 then some .present
  else if status = 1 then some .fault
  else none

/-- PANEL_POLL_REPLY (R170): a reply that is not good, names another address or comes outside a poll is discarded. -/
def execPanelPollReply (head : ReplyHead) (status check : Byte) (s : State) : Outcome :=
  match s.board.chain, replyPresence head status check with
  | .poll a _ _, some p => .next (if head.address.toNat = a then s.completePoll p else s)
  | .poll _ _ _, none => .next s
  | .free, _ => .next s
  | .refresh _ _ _, _ => .next s

/-- The wait for a poll reply, in ms (R170). -/
def pollWait : Nat := 50

/-- PANEL_POLL_TIMEOUT (R170, log 7). -/
def execPanelPollTimeout (s : State) : Outcome :=
  match s.board.chain with
  | .poll _ waited _ => .next (if pollWait ≤ waited then s.completePoll .missing else s)
  | .free | .refresh _ _ _ => .next s

/-- CHECK PANELS (R170). -/
def carryCheckPanels (s : State) : Carried :=
  if s.board.check.isSome then s.refuse .busy else (s.setBoard { s.board with check := some ⟨0, 0⟩ }).taken []

/-- R170. -/
def execCheckPanels (s : State) : Outcome := desk .checkPanels carryCheckPanels s

/-! ### The winner blink (R172) -/

/-- How long the winner blink lasts, in ms (R172). -/
def blinkTime : Nat := 3000

/-- A round has closed WON: the winner's panel begins its blink, unless it is held (R47, R172). -/
def State.beginBlink (s : State) (t : Nat) : State :=
  if (s.board.panelAt t).held then s
  else s.setBoard (s.board.setPanelAt t { s.board.panelAt t with blinkLeft := blinkTime, blinkOpen := true })

/-- WINNER_BLINK_END (R172): the blink remaining has reached 0, so that the live blink value is NO, and the blink is over
(log 5). -/
def execWinnerBlinkEnd (t : Nat) (s : State) : Outcome :=
  .next
    (if isTeamNumber t && (s.board.panelAt t).blinkLeft = 0 then
      s.setBoard (s.board.setPanelAt t { s.board.panelAt t with blinkOpen := false })
    else s)

/-! ### Holding and revealing (R173 to R176) -/

/-- The held snapshot as HOLD BOARDS takes it (R173). -/
def State.snapshotNow (s : State) : Snapshot where
  panels := teamNumbers.map fun t => ((s.liveTeamImage t).score, (s.liveTeamImage t).rank)
  teamLines := s.standings.lines .teams
  houseLines := s.standings.lines .houses

/-- Every held mark set or cleared; address 0 has its line marks in `lineHeld` (R165, R173). -/
def Board.markAll (b : Board) (x : Bool) : Board :=
  { b with
    panels := b.panels.mapIdx fun a r => { r with held := if a = 0 then r.held else x }
    lineHeld := List.replicate 8 x }

/-- HOLD BOARDS (R173). -/
def carryHoldBoards (s : State) : Carried :=
  if s.board.state = .live then
    ((s.setBoard { s.board.markAll true with state := .held, snapshot := some s.snapshotNow }).raise
      (.boardHeld s.standings.playingCount)).done []
  else s.refuse .wrongState

/-- R173. -/
def execHoldBoards (s : State) : Outcome := desk .holdBoards carryHoldBoards s

/-- REVEAL BOARDS (R174): the interval is clamped to 1..10 s, and the cursor starts at n, or at 1. -/
def carryRevealBoards (interval : Byte) (s : State) : Carried :=
  if s.board.state = .held then
    let seconds := max 1 (min 10 interval.toNat)
    (s.setBoard
      { s.board with
        state := .revealing
        cursor := max 1 s.standings.playingCount
        interval := seconds * 1000
        revealLeft := seconds * 1000 }).taken (form1 seconds)
  else s.refuse .wrongState

/-- R174. -/
def execRevealBoards (interval : Byte) (s : State) : Outcome :=
  desk (.revealBoards interval) (carryRevealBoards interval) s

/-- The boards are LIVE: every held mark is cleared, the snapshot is given up and the reveal timer stops (R175, R176,
R180; log 27). -/
def Board.goLive (b : Board) : Board := { b.markAll false with state := .live, snapshot := none, revealLeft := 0 }

/-- Steps 1 and 2 of a reveal step: the team at the cursor position and the line at the cursor are released (R175). -/
def State.releaseAtCursor (s : State) : State :=
  let b := match s.standings.teamAtPosition s.board.cursor with
    | some t => s.board.setPanelAt t { s.board.panelAt t with held := false }
    | none => s.board
  s.setBoard
    (if b.cursor ≤ 8 then { b with lineHeld := b.lineHeld.set (b.cursor - 1) false } else b)

/-- The event of a reveal step (R175, R179). -/
def State.revealEvent (s : State) : Event :=
  .revealStep s.board.cursor (s.standings.teamAtPosition s.board.cursor)
    (if s.board.cursor ≤ 8 then some s.board.cursor else none)

/-- One reveal step (R175). -/
def State.reveal (s : State) : State :=
  let t := s.releaseAtCursor.raise s.revealEvent
  if s.board.cursor = 1 then (t.setBoard t.board.goLive).raise .revealComplete
  else t.setBoard { t.board with cursor := t.board.cursor - 1, revealLeft := t.board.interval }

/-- REVEAL_STEP (R175): the reveal timer has expired. -/
def execRevealStep (s : State) : Outcome :=
  .next (if s.board.state = .revealing && s.board.revealLeft = 0 then s.reveal else s)

/-- RELEASE BOARDS (R176). -/
def carryReleaseBoards (s : State) : Carried :=
  if s.board.state = .live then s.done []
  else ((s.setBoard s.board.goLive).raise (.boardReleased s.board.state)).done []

/-- R176. -/
def execReleaseBoards (s : State) : Outcome := desk .releaseBoards carryReleaseBoards s

/-! ### The leaderboard mode and READ BOARD (R177, R178) -/

/-- SET LEADERBOARD MODE (R177). -/
def carrySetLeaderboardMode (mode : Byte) (s : State) : Carried :=
  match BoardMode.ofCode mode with
  | some m => (s.setBoard { s.board with mode := m }).done []
  | none => s.refuse .outOfRange

/-- R177. -/
def execSetLeaderboardMode (mode : Byte) (s : State) : Outcome :=
  desk (.setLeaderboardMode mode) (carrySetLeaderboardMode mode) s

/-- The SUMMARY view; cursor and interval are absent out of REVEALING, and the next address is absent with no check in
progress (R178, R196). -/
def State.boardSummary (s : State) : List Byte :=
  let b := s.board
  let revealing := b.state = .revealing
  [b.state.code, b.mode.code] ++ form1? (if revealing then some b.cursor else none)
    ++ form1? (if revealing then some (b.interval / 1000) else none) ++ formBool b.check.isSome
    ++ form1? (b.check.map PanelCheck.next) ++ form1 b.pointer ++ form1 (addresses.countP s.dirty)
    ++ addresses.map fun a => (b.panelAt a).presence.code

/-- An absent image of the panel's kind: every value in its absent form, 0xFF where the form has no blank (log 33). -/
def absentImage (a : Nat) : List Byte :=
  if a = 0 then 0xFF :: (List.replicate 8 (formLine none)).flatten ++ form2? none ++ form1? none
  else formScore? none ++ form1? none ++ [0xFF]

/-- The PANEL view (R178, log 33): at address 0 the blink remaining, a value of team panels only, goes in its absent form
(R196). The names of an image go as in a panel frame, without the length byte of a name in reply data, which is the model's
choice (log 33). -/
def State.panelView (s : State) (a : Nat) : List Byte :=
  let r := s.board.panelAt a
  [r.presence.code] ++ formBool (s.dirty a)
    ++ (if a = 0 then (s.board.lineHeld.map formBool).flatten else formBool r.held) ++ (s.target a).bytes
    ++ (match r.shown with | some image => image.bytes | none => absentImage a)
    ++ form2? (if a = 0 then none else some r.blinkLeft)

/-- READ BOARD (R178). -/
def carryReadBoard (view argument : Byte) (s : State) : Carried :=
  if view = 0 then (if argument = 0 then s.done s.boardSummary else s.refuse .outOfRange)
  else if view = 1 then (if argument.toNat ≤ 24 then s.done (s.panelView argument.toNat) else s.refuse .outOfRange)
  else s.refuse .outOfRange

/-- R178. -/
def execReadBoard (view argument : Byte) (s : State) : Outcome :=
  desk (.readBoard view argument) (carryReadBoard view argument) s

/-! ### The show reset (R180) -/

/-- The operation on the chain at a show reset completes without effect (R169, R180). -/
def Chain.voided : Chain → Chain
  | .free => .free
  | .refresh a image _ => .refresh a image true
  | .poll a waited _ => .poll a waited true

/-- The driver after a show reset (R180): presence, mode and refresh pointer are kept. -/
def Board.showReset (b : Board) : Board :=
  { b.goLive with
    panels := b.goLive.panels.map fun r => { r with shown := none, blinkLeft := 0, blinkOpen := false }
    chain := b.chain.voided
    check := none }

end Sys2Proof.Machine
end

