-- ==== Sys2Proof/Machine/RoundList.lean ====
section
/-! DEFINITION. The Round List (01_the_round_list.md): cueing, parking, the walk after a close, and the list
commands. -/

namespace Sys2Proof.Machine

/-! ### The list position (R6, R14, R16) -/

/-- The pointer moves to an ENGINE-owned slot, the engine is CUED there, and LIST CUED is raised (R12 to R14, R16). -/
def State.cueAt (s : State) (j : Fin 128) : State :=
  ((s.setList { s.list with pointer := j, park := none }).enter .cued).raise (.listCued j)

/-- The engine is parked IDLE at a slot, and LIST IDLE is raised (R11 to R14, R16). -/
def State.parkAt (s : State) (k : Fin 128) (reason : ParkReason) (basis : ParkBasis) : State :=
  ((s.setList { s.list with pointer := k, park := some (reason, basis) }).enter .idle).raise (.listIdle k reason basis)

/-- The link of slot k is followed: by the walk after a close, and by GO at a position parked AFTER CLOSE (R13,
R16). -/
def State.followFrom (s : State) (k : Fin 128) : State :=
  match (s.slotAt k).setup.link with
  | none => s.parkAt k .noLink .afterClose
  | some j => if (s.slotAt j).owner = .engine then s.cueAt j else s.parkAt k .notHandedOver .afterClose

/-- A slot's owner is examined: by SET POINTER, and by GO at a position parked AT SLOT (R12, R13). -/
def State.examine (s : State) (k : Fin 128) : State :=
  if (s.slotAt k).owner = .engine then s.cueAt k else s.parkAt k .notHandedOver .atSlot

/-- The list position in a reply: engine state, pointer, park reason and basis or absent (R6, R14, log 16). -/
def State.listPosition (s : State) : List Byte :=
  [s.engine.state.code] ++ form1 s.list.pointer.val ++ formCode? (s.list.park.map fun p => p.1.code)
    ++ formCode? (s.list.park.map fun p => p.2.code)

/-- A slot is current: the engine is CUED or live and the pointer is at it (R6). -/
def State.isCurrent (s : State) (k : Fin 128) : Bool := s.engine.state ≠ .idle && s.list.pointer = k

/-! ### WRITE ROUND and READ ROUND (R7, R8) -/

/-- The number of the first field whose check fails (R7, R9). -/
def firstFailing (checks : List (Nat × Bool)) : Option Nat := (checks.find? fun c => !c.2).map Prod.fst

/-- The enumerated fields of a descriptor payload and whether each code names a value, in field-number order (R7). -/
def codeChecks (d : DescriptorPayload) : List (Nat × Bool) :=
  [(1, (RoundKind.ofCode d.kind).isSome), (2, (linkOf d.link).isSome),
    (12, (FalseStartRule.ofCode d.falseStart).isSome), (13, (ReboundMode.ofCode d.rebound).isSome),
    (14, (boolOfCode d.timeoutWrong).isSome), (15, (boolOfCode d.streakScoring).isSome),
    (17, (RoundKey.ofCode d.key).isSome), (18, (AnswerLock.ofCode d.answerLock).isSome)]

/-- The descriptor as it is stored; read only where every enumerated code is known (R7). -/
def storedDescriptor (d : DescriptorPayload) : Descriptor where
  kind := (RoundKind.ofCode d.kind).getD .none
  link := (linkOf d.link).getD none
  basePoints := d.basePoints
  penalty := d.penalty
  bonusMax := d.bonusMax
  bonusWindow := d.bonusWindow
  timeLimit := d.timeLimit
  readingLimit := d.readingLimit
  answerWindow := d.answerWindow
  settleWindow := d.settleWindow
  wrongLimit := d.wrongLimit
  falseStart := (FalseStartRule.ofCode d.falseStart).getD .ignore
  rebound := (ReboundMode.ofCode d.rebound).getD .queue
  timeoutWrong := (boolOfCode d.timeoutWrong).getD false
  streakScoring := (boolOfCode d.streakScoring).getD false
  options := d.options
  key := (RoundKey.ofCode d.key).getD .held
  answerLock := (AnswerLock.ofCode d.answerLock).getD .first
  teamSet := d.teamSet

/-- WRITE ROUND (R7): the slot number, the owner, then the enumerated fields. -/
def carryWriteRound (slot : Byte) (d : DescriptorPayload) (s : State) : Carried :=
  match slotOf slot with
  | none => s.refuseField 0
  | some k =>
    if (s.slotAt k).owner = .engine then s.refuse .slotHeld
    else
      match firstFailing (codeChecks d) with
      | some field => s.refuseField field
      | none => (s.setSlot k ⟨storedDescriptor d, .edit, RoundResult.cleared⟩).done []

/-- R7. -/
def execWriteRound (slot : Byte) (d : DescriptorPayload) (s : State) : Outcome :=
  desk (.writeRound slot d) (carryWriteRound slot d) s

/-- A slot as READ ROUND returns it (R8, R196). -/
def Slot.bytes (x : Slot) : List Byte :=
  x.setup.bytes ++ [x.owner.code, x.result.outcome.code] ++ form1? x.result.winner ++ form1 x.result.claims
    ++ form1 x.result.wrong ++ form2 x.result.duration

/-- READ ROUND (R8). -/
def carryReadRound (slot : Byte) (s : State) : Carried :=
  match slotOf slot with
  | none => s.refuse .outOfRange
  | some k => s.done (s.slotAt k).bytes

/-- R8. -/
def execReadRound (slot : Byte) (s : State) : Outcome := desk (.readRound slot) (carryReadRound slot) s

/-! ### HAND OVER and TAKE BACK (R9 to R11) -/

/-- The key of a CHOICE descriptor is HELD or one of the keys in play (R2). -/
def Descriptor.keyInPlay (d : Descriptor) : Bool :=
  match d.key with
  | .held => true
  | .given k => k.place ≤ d.options.toNat

/-- A number within a range. -/
def within (lo hi n : Nat) : Bool := lo ≤ n && n ≤ hi

/-- The checks of HAND OVER over the fields that a kind uses, in field-number order (R9). -/
def Descriptor.checks (d : Descriptor) : List (Nat × Bool) :=
  match d.kind with
  | .none => [(1, false)]
  | .buzz =>
    [(3, within 0 500 d.basePoints.toNat), (4, within 0 500 d.penalty.toNat), (5, within 0 250 d.bonusMax.toNat),
      (6, within 0 300 d.bonusWindow.toNat), (7, within 10 9000 d.timeLimit.toNat),
      (8, within 1 120 d.readingLimit.toNat), (9, within 1 60 d.answerWindow.toNat),
      (10, within 0 50 d.settleWindow.toNat), (11, within 1 24 d.wrongLimit.toNat), (19, d.teamSet ≠ 0)]
  | .choice =>
    [(3, within 0 500 d.basePoints.toNat), (7, within 10 9000 d.timeLimit.toNat),
      (8, within 1 120 d.readingLimit.toNat), (16, within 2 6 d.options.toNat), (17, d.keyInPlay), (19, d.teamSet ≠ 0)]
  | .poll =>
    [(7, within 10 9000 d.timeLimit.toNat), (8, within 1 120 d.readingLimit.toNat), (16, within 2 6 d.options.toNat)]

/-- HAND OVER (R9, R10). -/
def carryHandOver (slot : Byte) (s : State) : Carried :=
  match slotOf slot with
  | none => s.refuseField 0
  | some k =>
    if (s.slotAt k).owner = .engine then s.refuse .slotHeld
    else
      match firstFailing (s.slotAt k).setup.checks with
      | some field => s.refuseField field
      | none => (s.setSlot k { s.slotAt k with owner := .engine }).done []

/-- R9, R10. -/
def execHandOver (slot : Byte) (s : State) : Outcome := desk (.handOver slot) (carryHandOver slot) s

/-- TAKE BACK (R11). -/
def carryTakeBack (slot : Byte) (s : State) : Carried :=
  match slotOf slot with
  | none => s.refuse .outOfRange
  | some k =>
    if (s.slotAt k).owner = .edit then s.done []
    else if !s.isCurrent k then (s.setSlot k { s.slotAt k with owner := .edit }).done []
    else if s.live then s.refuse .slotHeld
    else
      let t := (s.setSlot k { s.slotAt k with owner := .edit }).parkAt k .notHandedOver .atSlot
      t.done t.listPosition

/-- R11. -/
def execTakeBack (slot : Byte) (s : State) : Outcome := desk (.takeBack slot) (carryTakeBack slot) s

/-! ### SET POINTER and GO (R12, R13) -/

/-- SET POINTER (R12): the slot number, then the state (log 22). -/
def carrySetPointer (slot : Byte) (s : State) : Carried :=
  match slotOf slot with
  | none => s.refuse .outOfRange
  | some k => if s.live then s.refuse .wrongState else (s.examine k).done (s.examine k).listPosition

/-- R12. -/
def execSetPointer (slot : Byte) (s : State) : Outcome := desk (.setPointer slot) (carrySetPointer slot) s

/-- GO's examination of the parked position (R13). -/
def State.reexamine (s : State) : State :=
  match s.list.park with
  | some (_, .afterClose) => s.followFrom s.list.pointer
  | some (_, .atSlot) | none => s.examine s.list.pointer

/-- GO (R13). -/
def carryGo (s : State) : Carried :=
  if s.engine.state = .idle then s.reexamine.done s.reexamine.listPosition else s.refuse .wrongState

/-- R13. -/
def execGo (s : State) : Outcome := desk .go carryGo s

/-! ### The close and the show reset (R15, R20) -/

/-- The slot of a round that closes: its outcome is written and it is handed back (R15). -/
def State.writeOutcome (s : State) (k : Fin 128) (r : RoundResult) : State :=
  s.setSlot k { s.slotAt k with owner := .edit, result := r }

/-- The list after a show reset (R20); the outcome of an abandoned round has been written before. -/
def RoundList.showReset (x : RoundList) : RoundList where
  slots := x.slots.map fun y => { y with owner := .edit }
  pointer := 0
  park := some (.notHandedOver, .atSlot)

end Sys2Proof.Machine
end

