-- ==== Sys2Proof/Machine/Floor.lean ====
section
/-! DEFINITION. The close of a round (R47) and the Floor Arbiter (05_claims_and_the_floor.md): the claim queue, the
admission of claims, false starts, the settle deadline, grants, verdicts and rebounds, and READ FLOOR. -/

namespace Sys2Proof.Machine

/-! ### The close of a round (R47) -/

/-- The outcome fields written at the close (R15). -/
def State.resultOf (s : State) (outcome : RoundOutcome) (winner : Option Nat) : RoundResult where
  outcome := outcome
  winner := winner
  claims := if s.context.kind = .buzz then s.context.claimsAdmitted else 0
  wrong := if s.context.kind = .buzz then s.context.wrongCount else 0
  duration := s.engine.clock / 100

/-- The ROUND CLOSED event (R48); claims left is the length of the claim queue (R47, step 2). -/
def State.closedEvent (s : State) (outcome : RoundOutcome) (winner : Option Nat) : Event :=
  let r := s.resultOf outcome winner
  .roundClosed s.context.slot s.context.kind outcome winner r.claims s.arbiter.queue.length s.context.grantCount r.wrong
    r.duration

/-- The context after the close: the parts marked 'only' in R23 are absent, the lock set is empty and no change to
SETTLING is due; the rest keeps its closing values (R24). -/
def Context.closed (c : Context) : Context :=
  { c with
    holder := none, closeMark := none, answerLeft := none, locks := List.replicate teamCount none, settleDue := false }

/-- Steps 1 to 3 of the close (R47): clock and timers stop, queue, locks and holder go, lamps OFF. The engine state is
the list's to set from here on; IDLE stands until then. -/
def State.stopRound (s : State) : State :=
  (((s.setEngine { s.engine with state := .idle, remembered := none }).mapContext Context.closed).setArbiter
      ⟨[], none⟩).lampsOff

/-- Steps 1 to 5 of the close (R47). -/
def State.closeRound (s : State) (outcome : RoundOutcome) (winner : Option Nat) : State :=
  (s.stopRound.raise (s.closedEvent outcome winner)).writeOutcome s.context.slot (s.resultOf outcome winner)

/-- The close of a round (R47), but for the winner blink: steps 1 to 5, then the walk from the slot (R16). -/
def State.close (s : State) (outcome : RoundOutcome) : State :=
  (s.closeRound outcome none).followFrom s.context.slot

/-- The close WON (R47, R105): the winner blink starts at step 7. -/
def State.closeWon (s : State) (winner : Nat) : State :=
  ((s.closeRound .won (some winner)).followFrom s.context.slot).beginBlink winner

/-! ### The claim queue (R97) -/

/-- The tie rank of a team (R97). -/
def tieRank (tieStart t : Nat) : Nat := (t + teamCount - tieStart) % teamCount

/-- A claim comes before another: by stamp, then by tie rank (R97). -/
def QueuedClaim.before (tieStart : Nat) (a b : QueuedClaim) : Bool :=
  a.stamp < b.stamp || (a.stamp = b.stamp && tieRank tieStart a.team < tieRank tieStart b.team)

/-- A claim placed in the order of the queue (R97). -/
def insertClaim (tieStart : Nat) (c : QueuedClaim) : List QueuedClaim → List QueuedClaim
  | [] => [c]
  | d :: rest => if c.before tieStart d then c :: d :: rest else d :: insertClaim tieStart c rest

/-- The queue without a team's claim. -/
def withoutTeam (queue : List QueuedClaim) (t : Nat) : List QueuedClaim := queue.filter fun c => c.team ≠ t

/-- A team's claim in the queue. -/
def Arbiter.claimOf (a : Arbiter) (t : Nat) : Option QueuedClaim := a.queue.find? fun c => c.team = t

/-- A team's place in the queue, the head being place 1 (log 20). -/
def placeOf (queue : List QueuedClaim) (t : Nat) : Option Nat :=
  (queue.findIdx? fun c => c.team = t).map (· + 1)

/-- The state with the claim queue replaced. -/
def State.setQueue (s : State) (queue : List QueuedClaim) : State := s.setArbiter { s.arbiter with queue := queue }

/-! ### The settle deadline and the grant (R100 to R102) -/

/-- The settle deadline (R100): none unless a BUZZ round is live with no team on the floor (log 14). -/
def State.deadline (s : State) : Option Nat :=
  if s.liveKind .buzz && s.context.holder = none then
    match s.arbiter.queue with
    | c :: _ => some (c.stamp + s.setup.settleWindow.toNat)
    | [] =>
      if s.context.timeCalled then s.context.expiryStamp.map (· + s.setup.settleWindow.toNat) else none
  else none

/-- The round clock is at or past a deadline; one above the clock's maximum counts as reached once the clock holds
(R26, R101). -/
def State.reached (s : State) (deadline : Nat) : Bool := min deadline clockMax ≤ s.engine.clock

/-- The grant condition (R101). -/
def State.grantHolds (s : State) : Bool :=
  match s.deadline with
  | some d => s.reached d && !s.intakeHolds d
  | none => false

/-- The FLOOR lamp at a grant (R63): BLINK from the start when A is 5 s or less. -/
def grantLamp (d : Descriptor) : LampState := if d.answerWindow.toNat ≤ 5 then .blink else .on

/-- The context after a grant (R36, R102). -/
def Context.granted (x : Context) (c : QueuedClaim) (answerMs : Nat) : Context :=
  { x with
    holder := some ⟨c.team, c.stamp, c.source, c.number⟩
    grantCount := x.grantCount + 1
    answerLeft := some answerMs }

/-- A grant passes the floor to the head of the queue (R102). -/
def State.grant (s : State) (c : QueuedClaim) (rest : List QueuedClaim) : State :=
  ((((s.setQueue rest).mapContext fun x => x.granted c (secondsMs s.setup.answerWindow)).enter .floor).setFloorLamp
      c.team (grantLamp s.setup)).raise
    (.floorGranted c.team c.stamp c.source c.number (s.context.grantCount + 1) s.setup.answerWindow.toNat rest.length)

/-- The grant condition is tested (R101): in SETTLING only, so never while PAUSED (R94). When it holds, the head is
granted the floor, or with the queue empty the round closes TIMED OUT (R103). -/
def State.testGrant (s : State) : State :=
  if s.engine.state = .settling && s.grantHolds then
    match s.arbiter.queue with
    | c :: rest => s.grant c rest
    | [] => s.close .timedOut
  else s

/-! ### Locks and withdrawals (R95, R96, R111) -/

/-- The context with a team in the lock set; a team already there keeps its first reason (R96). -/
def Context.lock (c : Context) (t : Nat) (reason : LockReason) : Context :=
  if (c.lockOf t).isSome then c else { c with locks := c.locks.set (t - 1) (some reason) }

/-- A team joins the lock set, and its LOCK lamp comes ON (R64, R96). -/
def State.lockTeam (s : State) (t : Nat) (reason : LockReason) : State :=
  (s.mapContext fun c => c.lock t reason).setLockLamp t .on

/-- The WITHDRAWN event of a claim (R111). -/
def QueuedClaim.withdrawn (c : QueuedClaim) (reason : WithdrawReason) : Event :=
  .claimWithdrawn c.team c.stamp c.source c.number reason

/-! ### Claims (R92 to R99) -/

/-- A claim as it is offered (R92). -/
structure Offer where
  team : Nat
  stamp : Int
  source : Source
  arrival : Option Nat
  paused : Bool
  deriving DecidableEq, Repr

/-- A claim is a false start: check 3 of R93. -/
def State.isFalseStart (s : State) (o : Offer) : Bool :=
  s.phase = .reading || (match s.context.openTime with | some t => o.stamp < t | none => true)

/-- The outcome of a false start (R95). -/
def State.falseStartOutcome (s : State) (t : Nat) : ClaimOutcome :=
  match s.setup.falseStart with
  | .ignore => .falseStartIgnored
  | .lock => if (s.context.lockOf t).isSome then .falseStartAlreadyLocked else .falseStartLocked
  | .penalise => if (s.context.lockOf t).isSome then .falseStartAlreadyLocked else .falseStartPenalised

/-- Time has been called, and a stamp is at or after expiry_stamp: check 6 of R93. -/
def State.isLate (s : State) (stamp : Int) : Bool :=
  s.context.timeCalled && (match s.context.expiryStamp with | some e => (e : Int) ≤ stamp | none => false)

/-- A stamp is before the reopen mark (R109). -/
def State.beforeReopen (s : State) (stamp : Int) : Bool :=
  match s.arbiter.reopen with
  | some m => stamp < m
  | none => false

/-- The admission checks in order: the first that applies decides (R93; R109 puts the reopen check between 6 and 7). -/
def State.claimOutcome (s : State) (o : Offer) : ClaimOutcome :=
  if o.paused then .paused
  else if !s.inPlay o.team then .notInPlay
  else if s.isFalseStart o then s.falseStartOutcome o.team
  else if (s.context.lockOf o.team).isSome then .locked
  else if s.context.holder.map Holder.team = some o.team then .holdsFloor
  else if s.isLate o.stamp then .late
  else if s.beforeReopen o.stamp then .beforeReopen
  else
    match s.arbiter.claimOf o.team with
    | some c => if o.stamp < c.stamp then .replaced else .duplicate
    | none => .admitted

/-- The free value that stands on the wire for a stamp below 0 (log 11); not read for any other stamp. -/
def State.stampCode (s : State) (stamp : Int) : BitVec 24 :=
  if stamp < 0 then Config.unstatedStamp s.free stamp.natAbs else 0

/-- The counter of the free values is advanced where a stamp below 0 is told (log 10, log 11). -/
def State.useStamp (s : State) (stamp : Int) : State := if stamp < 0 then s.setFree (s.free + 1) else s

/-- The CLAIM event of a claim that neither enters nor moves in the queue (R111). -/
def State.refusalEvent (s : State) (o : Offer) (outcome : ClaimOutcome) : Event :=
  .claim o.team outcome o.stamp (s.stampCode o.stamp) o.source o.arrival none none none

/-- The CLAIM event is raised of a claim that neither enters nor moves in the queue. -/
def State.tellRefusal (s : State) (o : Offer) (outcome : ClaimOutcome) : State :=
  (s.useStamp o.stamp).raise (s.refusalEvent o outcome)

/-- The queue with a claim placed in it. -/
def State.queueWith (s : State) (c : QueuedClaim) : List QueuedClaim :=
  insertClaim s.engine.tieStart c (withoutTeam s.arbiter.queue c.team)

/-- A claim placed in the queue and told (R97 to R99, R111). -/
def State.place (s : State) (o : Offer) (outcome : ClaimOutcome) (c : QueuedClaim) (oldStamp : Option Nat) : State :=
  (s.setQueue (s.queueWith c)).raise
    (.claim o.team outcome o.stamp (s.stampCode o.stamp) o.source o.arrival (some c.number)
      (placeOf (s.queueWith c) c.team) oldStamp)

/-- The arrival number of the next admission (R99). -/
def State.nextNumber (s : State) : Nat := bump 255 s.context.claimsAdmitted

/-- A first admission in OPEN makes the engine SETTLING (R36); with OPEN remembered the change is due at RESUME, whatever
becomes of the claim in between (R45, R94, log 45). -/
def State.settleFromOpen (s : State) : State :=
  if s.engine.state = .opened then s.enter .settling
  else if s.phase = .opened then s.mapContext fun c => { c with settleDue := true }
  else s

/-- A claim is admitted (R36, R97, R99), and the grant condition is tested (R101). -/
def State.admitClaim (s : State) (o : Offer) : State :=
  let c : QueuedClaim := ⟨o.team, o.stamp.toNat, o.source, s.nextNumber⟩
  ((s.place o .admitted c none).mapContext
      (fun x => { x with claimsAdmitted := s.nextNumber })).settleFromOpen.testGrant

/-- A claim replaces its team's queued claim, which keeps its arrival number, and the grant condition is tested (R98,
R101, log 31). -/
def State.replace (s : State) (o : Offer) : State :=
  match s.arbiter.claimOf o.team with
  | some old => (s.place o .replaced ⟨o.team, o.stamp.toNat, o.source, old.number⟩ (some old.stamp)).testGrant
  | none => s

/-- The penalty of a false start (R95). -/
def State.penalise (s : State) (t : Nat) : State := s.scoreChange (falseStartRequest s.setup t)

/-- A false start withdraws its team's queued claim; where it was the head, the grant condition is tested (R95,
R101). -/
def State.withdrawLocked (s : State) (t : Nat) : State :=
  match s.arbiter.claimOf t with
  | some c => (s.setQueue (withoutTeam s.arbiter.queue t)).raise (c.withdrawn .falseStartLock)
  | none => s

/-- The team's claim is the head of the queue. -/
def State.isHead (s : State) (t : Nat) : Bool := s.arbiter.queue.head?.map QueuedClaim.team = some t

/-- A false start that locks (R95): the lock, the CLAIM event, the withdrawal of a queued claim. -/
def State.falseStartLock (s : State) (o : Offer) : State :=
  let t := ((s.tellRefusal o .falseStartLocked).lockTeam o.team .falseStart).withdrawLocked o.team
  if s.isHead o.team then t.testGrant else t

/-- A false start that locks and penalises (R95). With a queued claim to withdraw, the order of the SCORE and the
WITHDRAWN event is a free value (log 12). Where the withdrawn claim was the head, the grant condition is tested last, so
that SCORE comes before FLOOR GRANTED: the model's choice (log 42). -/
def State.falseStartPenalise (s : State) (o : Offer) : State :=
  let t := (s.tellRefusal o .falseStartPenalised).lockTeam o.team .falseStart
  let u :=
    if (s.arbiter.claimOf o.team).isSome then
      let v := t.setFree (t.free + 1)
      if Config.penaltyBeforeWithdrawal t.free then (v.penalise o.team).withdrawLocked o.team
      else (v.withdrawLocked o.team).penalise o.team
    else t.penalise o.team
  if s.isHead o.team then u.testGrant else u

/-- A claim is offered to the Floor Arbiter and dealt with whole (R92, R93). -/
def State.offer (s : State) (o : Offer) : State :=
  match s.claimOutcome o with
  | .admitted => s.admitClaim o
  | .replaced => s.replace o
  | .falseStartLocked => s.falseStartLock o
  | .falseStartPenalised => s.falseStartPenalise o
  | .duplicate => s.tellRefusal o .duplicate
  | .locked => s.tellRefusal o .locked
  | .holdsFloor => s.tellRefusal o .holdsFloor
  | .late => s.tellRefusal o .late
  | .paused => s.tellRefusal o .paused
  | .notInPlay => s.tellRefusal o .notInPlay
  | .beforeReopen => s.tellRefusal o .beforeReopen
  | .falseStartIgnored => s.tellRefusal o .falseStartIgnored
  | .falseStartAlreadyLocked => s.tellRefusal o .falseStartAlreadyLocked

/-! ### Time called (R37, R103) -/

/-- Time is called: every late claim is withdrawn (R103). Their WITHDRAWN events come in queue order: the model's
choice, since R103 names no order (log 41). -/
def State.withdrawLate (s : State) : State :=
  (s.setQueue (s.arbiter.queue.filter fun c => !s.isLate c.stamp)).raiseAll
    ((s.arbiter.queue.filter fun c => s.isLate c.stamp).map fun c => c.withdrawn .late)

/-! ### Verdicts and rebounds (R105 to R109) -/

/-- The floor is given up: holder and answer timer become absent, the FLOOR lamp goes OFF (R35, R105, R106). -/
def State.clearFloor (s : State) (t : Nat) : State :=
  (s.mapContext fun c => { c with holder := none, answerLeft := none }).setFloorLamp t .off

/-- A RIGHT verdict (R105): VERDICT, the award, the close WON. -/
def State.judgeRight (s : State) (h : Holder) : State :=
  (((s.clearFloor h.team).raise (.verdictGiven h.team .right h.stamp s.context.wrongCount .closeWon)).scoreChange
      (rightRequest s.setup s.standings h.team h.stamp (s.context.openTime.getD 0))).closeWon h.team

/-- Every team of the team set that is playing is in the lock set (R107). -/
def State.allLocked (s : State) : Bool :=
  teamNumbers.all fun t => !s.inPlay t || (s.context.lockOf t).isSome

/-- The round closes NO WINNER before any rebound (R107). -/
def State.closesNow (s : State) : Bool := s.setup.wrongLimit.toNat ≤ s.context.wrongCount || s.allLocked

/-- What the VERDICT event says follows (R106). -/
def State.follows (s : State) : Follows :=
  if s.closesNow then .closeNoWinner
  else
    match s.setup.rebound with
    | .queue => .reboundQueue
    | .reopen => .reboundReopen

/-- A QUEUE rebound (R108). -/
def State.reboundQueue (s : State) : State :=
  if s.arbiter.queue ≠ [] then (s.enter .settling).testGrant
  else if s.context.timeCalled then s.close .noWinner
  else s.enter .opened

/-- A REOPEN rebound (R109): every queued claim is withdrawn in queue order. -/
def State.reboundReopen (s : State) : State :=
  let t := (s.setArbiter ⟨[], some s.engine.clock⟩).raiseAll (s.arbiter.queue.map fun c => c.withdrawn .reopen)
  if s.context.timeCalled then t.close .noWinner else t.enter .opened

/-- The close or the rebound after a WRONG or TIMEOUT verdict (R107 to R109). -/
def State.afterWrong (s : State) (f : Follows) : State :=
  match f with
  | .closeNoWinner => s.close .noWinner
  | .reboundQueue => s.reboundQueue
  | .reboundReopen => s.reboundReopen
  | .closeWon => s

/-- The reason a wrong verdict locks a team for (R106). -/
def lockReasonOf (v : Verdict) : LockReason := if v = .timeout then .timeout else .wrong

/-- A verdict calls for a score change: a TIMEOUT only where it counts wrong (R106). -/
def countsWrong (d : Descriptor) (v : Verdict) : Bool := v ≠ .timeout || d.timeoutWrong

/-- Steps 1 to 3 of a WRONG or TIMEOUT verdict (R106). -/
def State.lockWrong (s : State) (h : Holder) (v : Verdict) : State :=
  ((s.clearFloor h.team).mapContext fun c => { c with wrongCount := c.wrongCount + 1 }).lockTeam h.team
    (lockReasonOf v)

/-- A WRONG or TIMEOUT verdict (R106). -/
def State.judgeWrong (s : State) (h : Holder) (v : Verdict) : State :=
  let t := s.lockWrong h v
  let u := t.raise (.verdictGiven h.team v h.stamp t.context.wrongCount t.follows)
  (if countsWrong s.setup v then u.scoreChange (wrongRequest s.setup h.team v) else u).afterWrong t.follows

/-! ### READ FLOOR (R112) -/

/-- A source, or its absent form (R196, log 19). -/
def formSource? : Option Source → List Byte
  | some x => formSource x
  | none => [0xFF, 0xFF, 0xFF]

/-- The holder in READ FLOOR: team, stamp, source and answer timer remaining, or all absent (R112). -/
def State.holderView (s : State) : List Byte :=
  form1? (s.context.holder.map Holder.team) ++ form3? (s.context.holder.map Holder.stamp)
    ++ formSource? (s.context.holder.map Holder.source) ++ form2? s.context.answerLeft

/-- An entry of the claim queue in READ FLOOR (R112). -/
def State.claimView (s : State) (c : QueuedClaim) : List Byte :=
  form1 c.team ++ form3 c.stamp ++ formSource c.source ++ form1 c.number ++ form1 (tieRank s.engine.tieStart c.team)

/-- READ FLOOR (R112). -/
def carryReadFloor (s : State) : Carried :=
  s.done
    (form1 s.engine.serial.toNat ++ s.holderView ++ form1 s.arbiter.queue.length
      ++ (s.arbiter.queue.map s.claimView).flatten ++ form3? s.deadline ++ formLocks s.context.locks
      ++ form3? s.arbiter.reopen ++ form1 s.context.claimsAdmitted ++ form1 s.context.grantCount
      ++ form1 s.context.wrongCount)

/-- R112. -/
def execReadFloor (s : State) : Outcome := desk .readFloor carryReadFloor s

end Sys2Proof.Machine
end

