-- ==== Sys2Proof/Machine/Answers.lean ====
section
/-! DEFINITION. The Answer Collector (06_answers_tallies_and_polls.md): taking an answer, the tally and its shares, the
entry to TALLYING and the completion of the tally (R40, R41), and READ ANSWERS. -/

namespace Sys2Proof.Machine

/-! ### The answer table (R114, R120) -/

/-- The place of an option among the keys A to F, from 0. -/
def OptKey.index (k : OptKey) : Nat := k.place - 1

/-- The six options in order. -/
def allOptions : List OptKey := [.a, .b, .c, .d, .e, .f]

/-- The keys in play: the first keys of A to F (R2). -/
def keysInPlay (options : Nat) : List OptKey := allOptions.take options

/-- An option key as the intake hands it on (R84); `position` is the roster position, absent for a guest. -/
structure AnswerKey where
  handset : BitVec 16
  position : Option Nat
  team : Option Nat
  option : OptKey
  stamp : Int
  arrival : Nat
  paused : Bool
  deriving DecidableEq, Repr

/-- The first guest slot's position in the table (R114). -/
def guestBase : Nat := 192

/-- The occupied positions of the table (R124). -/
def Collector.entries (x : Collector) : List AnswerEntry := x.table.filterMap id

/-- The table position at which a guest's answer stands, or is to be placed: the slot that holds its id, else the
lowest free one (R120). -/
def Collector.guestPosition (x : Collector) (handset : BitVec 16) : Option Nat :=
  let guests := x.table.drop guestBase
  match guests.findIdx? fun e => (e.map AnswerEntry.handset) = some handset with
  | some i => some (guestBase + i)
  | none => (guests.findIdx? fun e => e = none).map (guestBase + ·)

/-- The table position of a key's handset; none for a guest that finds no slot (R114, R120). -/
def Collector.positionOf (x : Collector) (k : AnswerKey) : Option Nat :=
  match k.position with
  | some p => some p
  | none => x.guestPosition k.handset

/-- The entry of the handset of a key, if the table holds one at its position. -/
def Collector.entryAt (x : Collector) (p : Nat) : Option AnswerEntry := x.table.getD p none

/-! ### Taking an answer (R117 to R122) -/

/-- The outcomes of an answer (R117). -/
inductive AnswerOutcome where
  | recorded | changed | ignored | paused | early | late | audienceFull
  deriving DecidableEq, Repr

/-- The handset may answer in this kind of round: check 6 (R119, R120). -/
def State.mayAnswer (s : State) (k : AnswerKey) : Bool :=
  match s.context.kind with
  | .poll => true
  | .choice =>
    match k.position, k.team with
    | some _, some t => s.inPlay t
    | _, _ => false
  | .none | .buzz => false

/-- The early check: check 3 (R118). -/
def State.isEarly (s : State) (stamp : Int) : Bool :=
  match s.context.openTime with
  | some t => stamp < t
  | none => true

/-- The late check: check 4 (R118). -/
def State.isLateAnswer (s : State) (arrival : Nat) : Bool :=
  match s.phase with
  | .tallying => (match s.context.closeMark with | some m => m < arrival | none => false)
  | .awaitKey => true
  | .idle | .cued | .reading | .opened | .settling | .floor | .paused => false

/-- The checks of R117 in order: the first that applies decides. -/
def State.answerOutcome (s : State) (k : AnswerKey) : AnswerOutcome :=
  if s.context.kind = .buzz then .ignored
  else if k.paused then .paused
  else if s.isEarly k.stamp then .early
  else if s.isLateAnswer k.arrival then .late
  else if s.setup.options.toNat < k.option.place then .ignored
  else if !s.mayAnswer k then .ignored
  else
    match s.answers.positionOf k with
    | none => .audienceFull
    | some p =>
      if (s.answers.entryAt p).isSome then
        match s.setup.answerLock with
        | .first => .ignored
        | .last => .changed
      else .recorded

/-- One more answer with an outcome (R116). -/
def AnswerCounts.add (c : AnswerCounts) (o : AnswerOutcome) : AnswerCounts :=
  match o with
  | .recorded => { c with recorded := bump 65535 c.recorded }
  | .changed => { c with changed := bump 65535 c.changed }
  | .ignored => { c with ignored := bump 65535 c.ignored }
  | .paused => { c with paused := bump 65535 c.paused }
  | .early => { c with early := bump 65535 c.early }
  | .late => { c with late := bump 65535 c.late }
  | .audienceFull => { c with audienceFull := bump 65535 c.audienceFull }

/-- The entry that a first answer places (R114). -/
def AnswerKey.entry (k : AnswerKey) : AnswerEntry := ⟨k.handset, k.team, k.option, k.stamp.toNat, 0⟩

/-- An entry replaced under answer lock LAST (R122). -/
def AnswerEntry.changedTo (e : AnswerEntry) (k : AnswerKey) : AnswerEntry :=
  { e with option := k.option, stamp := k.stamp.toNat, changes := bump 15 e.changes }

/-- What an answer does to the table and the counts (R116, R117). -/
def Collector.take (x : Collector) (k : AnswerKey) (o : AnswerOutcome) : Collector :=
  let y := { x with counts := x.counts.add o }
  match o, x.positionOf k with
  | .recorded, some p => { y with table := x.table.set p (some k.entry) }
  | .changed, some p => { y with table := x.table.set p ((x.entryAt p).map fun e => e.changedTo k) }
  | .audienceFull, _ => { y with fullMark := true }
  | _, _ => y

/-- An option key reaches the collector and is dealt with whole (R117); the first AUDIENCE FULL drop of the round
raises its event (R120). -/
def State.answer (s : State) (k : AnswerKey) : State :=
  let o := s.answerOutcome k
  let t := s.setAnswers (s.answers.take k o)
  if o = .audienceFull && !s.answers.fullMark then t.raise (.audienceFull k.handset) else t

/-! ### The tally (R124 to R129) -/

/-- The number of entries with an option (R124). -/
def Collector.countOf (x : Collector) (k : OptKey) : Nat := x.entries.countP fun e => e.option = k

/-- The number of entries of a team (R124). -/
def Collector.teamCount (x : Collector) (t : Nat) : Nat := x.entries.countP fun e => e.team = some t

/-- The number of a team's entries with an option (R126). -/
def Collector.teamRight (x : Collector) (t : Nat) (k : OptKey) : Nat :=
  x.entries.countP fun e => e.team = some t && e.option = k

/-- The share of a team: P × c ÷ m to the nearest whole number, a half rounded up (R127). -/
def shareOf (points right members : Nat) : Nat := (2 * points * right + members) / (2 * members)

/-- The percentage of an option: 100 × count ÷ N to the nearest whole number, a half rounded up; 0 when N is 0
(R129). -/
def percentOf (count total : Nat) : Nat := if total = 0 then 0 else (count * 200 + total) / (2 * total)

/-- The tally before any key: option counts, N, m_t and percentages (R124, R129). `counted` says which teams are
counted, `poll` whether the round is a POLL round. -/
def Collector.count (x : Collector) (options : Nat) (poll : Bool) (counted : Nat → Bool) : Tally where
  counts := (keysInPlay options).map x.countOf
  total := x.entries.length
  members := teamNumbers.map fun t => if !poll && counted t then some (x.teamCount t) else none
  right := List.replicate Sys2Proof.teamCount none
  shares := List.replicate Sys2Proof.teamCount none
  percents := if poll then (keysInPlay options).map fun k => percentOf (x.countOf k) x.entries.length else []
  revealed := none

/-- m_t of a team; 0 where it is absent. -/
def Tally.membersOf (y : Tally) (t : Nat) : Nat := (y.members.getD (t - 1) none).getD 0

/-- The share of a team, where it has one. -/
def Tally.shareAt (y : Tally) (t : Nat) : Option Nat := y.shares.getD (t - 1) none

/-- The tally with the key known: c_t of the counted teams and the shares of those with m_t of 1 or more (R126). A counted
team with m_t of 0 has c_t 0: the model's reading of R126, where the table of section 6.5 shows a dash (log 46). -/
def Tally.keyed (y : Tally) (x : Collector) (points : Nat) (k : OptKey) : Tally :=
  { y with
    right := teamNumbers.map fun t => (y.members.getD (t - 1) none).map fun _ => x.teamRight t k
    shares := teamNumbers.map fun t =>
      if 0 < y.membersOf t then some (shareOf points (x.teamRight t k) (y.membersOf t)) else none }

/-- The number of teams with m_t of 1 or more (R125). -/
def Tally.teamsAnswering (y : Tally) : Nat := teamNumbers.countP fun t => 0 < y.membersOf t

/-- The number of teams with c_t of 1 or more (R128). -/
def Tally.teamsRight (y : Tally) : Nat := teamNumbers.countP fun t => 0 < (y.right.getD (t - 1) none).getD 0

/-- The requests for the shares, in ascending team order (R126). -/
def Tally.requests (y : Tally) : List ScoreRequest :=
  teamNumbers.filterMap fun t => (y.shareAt t).map (shareRequest t)

/-- Score change requests dealt with one after another (R126, R137). -/
def State.scoreChanges (s : State) (qs : List ScoreRequest) : State := qs.foldl State.scoreChange s

/-- The tally stored, with its state. -/
def State.setTally (s : State) (st : TallyState) (y : Option Tally) : State :=
  s.setAnswers { s.answers with tallyState := st, tally := y }

/-- The tally of the answers as they stand (R124). -/
def State.countNow (s : State) : Tally :=
  s.answers.count s.setup.options.toNat (s.context.kind = .poll) s.inPlay

/-- The TALLY COUNTED event (R125). -/
def State.countedEvent (s : State) (y : Tally) : Event :=
  let choice := s.context.kind = .choice
  .tallyCounted s.context.slot s.context.kind y.counts y.total y.percents (if choice then some s.setup.key else none)
    (if choice then some y.teamsAnswering else none) s.answers.counts

/-- The shares of a keyed tally are applied in team order, and the round closes SCORED (R126). -/
def State.payShares (s : State) (y : Tally) : State := (s.scoreChanges y.requests).close .scored

/-- A CHOICE tally completes (R41, R125, R126, R128). -/
def State.completeChoice (s : State) (y : Tally) : State :=
  match s.setup.key with
  | .given k =>
    let z := y.keyed s.answers s.setup.basePoints.toNat k
    ((s.setTally .keyed (some z)).raise (s.countedEvent y)).payShares z
  | .held =>
    (((s.setTally .counted (some y)).raise (s.countedEvent y)).enter .awaitKey).raise
      (.roundAwaitingKey s.context.slot)

/-- The tally completes (R41): the close mark becomes absent and the table is counted. -/
def State.completeTally (s : State) : State :=
  let t := s.mapContext fun c => { c with closeMark := none }
  if s.context.kind = .choice then t.completeChoice s.countNow
  else ((t.setTally .counted (some s.countNow)).raise (s.countedEvent s.countNow)).close .polled

/-- The test of R41: in TALLYING, no entry of the round that arrived at or before the close mark remains. -/
def State.testTally (s : State) : State :=
  match s.context.closeMark with
  | some m => if s.engine.state = .tallying && !s.intakeHolds m then s.completeTally else s
  | none => s

/-- The entry to TALLYING, and the first test of the tally (R40, R41). -/
def State.enterTallying (s : State) : State :=
  (((s.mapContext fun c => { c with closeMark := some s.engine.clock }).enter .tallying).raise
    (.roundTallying s.engine.clock)).testTally

/-- REVEAL KEY's part of the collector: c_t, shares, TALLY KEYED, then the shares and the close (R128). -/
def State.keyTally (s : State) (k : OptKey) : State :=
  match s.answers.tally with
  | some y =>
    let z := { y.keyed s.answers s.setup.basePoints.toNat k with revealed := some k }
    ((s.setTally .keyed (some z)).raise
      (.tallyKeyed s.context.slot k (s.answers.countOf k) z.teamsRight)).payShares z
  | none => s.close .scored

/-- ABANDON's part of the collector (R130): a CHOICE or POLL round abandoned before its tally completes has tally state
DISCARDED. -/
def State.discardTally (s : State) : State :=
  if (s.context.kind = .choice || s.context.kind = .poll) && s.answers.tallyState = .none then
    s.setTally .discarded none
  else s

/-- START ROUND empties the table for the new round (R115, R116). -/
def Collector.started (serial : BitVec 8) (about : TableRound) : Collector :=
  { Collector.reset with tableSerial := some serial, about := some about }

/-! ### READ ANSWERS (R131) -/

/-- The tally has been counted: its state is COUNTED or KEYED. -/
def Collector.isCounted (x : Collector) : Bool := x.tallyState = .counted || x.tallyState = .keyed

/-- The options that the SUMMARY view gives: absent for a BUZZ round, which uses none (R2, log 18). -/
def TableRound.optionsShown (a : TableRound) : Option Nat :=
  if a.kind = .choice || a.kind = .poll then some a.options else none

/-- The key that the SUMMARY view gives for a CHOICE round: A..F, HELD or the revealed key (R131, log 18). -/
def Collector.keyShown (x : Collector) (a : TableRound) : Option Byte :=
  if a.kind = .choice then some (((x.tally.bind Tally.revealed).map OptKey.code).getD a.key.code) else none

/-- The guest slots taken (R131). -/
def Collector.guestsTaken (x : Collector) : Nat := (x.table.drop guestBase).countP Option.isSome

/-- A list with its count before it (R196). -/
def formList (items : List (List Byte)) : List Byte := form1 items.length ++ items.flatten

/-- The option counts and percentages of a counted tally; empty lists where there are none (R131, log 18). -/
def Collector.tallyView (x : Collector) : List Byte :=
  match x.tally with
  | some y =>
    if x.isCounted then formList (y.counts.map form2) ++ formList (y.percents.map form1)
    else formList [] ++ formList []
  | none => formList [] ++ formList []

/-- The SUMMARY view (R131). -/
def Collector.summary (x : Collector) : List Byte :=
  form1? (x.tableSerial.map BitVec.toNat) ++ formCode? (x.about.map fun a => a.kind.code)
    ++ form1? (x.about.bind TableRound.optionsShown) ++ formCode? (x.about.bind x.keyShown) ++ [x.tallyState.code]
    ++ form2 x.entries.length ++ form1 x.guestsTaken ++ formBool x.fullMark ++ x.counts.bytes ++ x.tallyView

/-- An entry of the ENTRIES view (R131). -/
def AnswerEntry.view (e : AnswerEntry) (p : Nat) : List Byte :=
  form1 p ++ form2 e.handset.toNat ++ form1? e.team ++ [e.option.code] ++ form3 e.stamp ++ form1 e.changes

/-- The occupied positions at or after a start, ascending. -/
def Collector.occupiedFrom (x : Collector) (start : Nat) : List Nat :=
  (List.range x.table.length).filter fun p => start ≤ p && (x.entryAt p).isSome

/-- The ENTRIES view: up to five entries, then the position after the last one returned, or END (R131, log 18). -/
def Collector.entriesView (x : Collector) (start : Nat) : List Byte :=
  let ps := (x.occupiedFrom start).take 5
  let more := (x.occupiedFrom start).drop 5
  formList (ps.filterMap fun p => (x.entryAt p).map fun e => e.view p)
    ++ (if more = [] then [0xFF] else form1 (ps.getLastD 0 + 1))

/-- One team of the TEAMS view (R131): whether it was counted, m_t, c_t and share or absent. An absent share goes as 0xFFFF, as
an absent quantity does, not as the 0x8000 of an absent delta: the model's choice (log 47). -/
def Collector.teamView (x : Collector) (t : Nat) : List Byte :=
  formBool (match x.about with | some a => a.kind = .choice && inSet a.counted t | none => false)
    ++ form1? (if x.isCounted then x.tally.bind fun y => y.members.getD (t - 1) none else none)
    ++ form1? (if x.tallyState = .keyed then x.tally.bind fun y => y.right.getD (t - 1) none else none)
    ++ form2? (if x.tallyState = .keyed then x.tally.bind fun y => y.shareAt t else none)

/-- READ ANSWERS (R131); every start position that its byte can carry is in range. -/
def carryReadAnswers (view argument : Byte) (s : State) : Carried :=
  if view = 0 then (if argument = 0 then s.done s.answers.summary else s.refuse .outOfRange)
  else if view = 1 then s.done (s.answers.entriesView argument.toNat)
  else if view = 2 then
    match halfOf argument with
    | some ts => s.done (ts.map s.answers.teamView).flatten
    | none => s.refuse .outOfRange
  else s.refuse .outOfRange

/-- R131. -/
def execReadAnswers (view argument : Byte) (s : State) : Outcome :=
  desk (.readAnswers view argument) (carryReadAnswers view argument) s

end Sys2Proof.Machine
end

