-- ==== Sys2Proof/Machine/Console.lean ====
section
/-! DEFINITION. The Console Line Unit (03_console_lines_and_lamps.md): sampling, line states, presses, stuck lines, the
lamp blink timer, SET LINE and READ LINE. -/

namespace Sys2Proof.Machine

/-! ### Sampling (R52, R56) -/

/-- What a sample reads under a press polarity, `high` being the level on the line (R51, R52). -/
def Polarity.read (p : Polarity) (high : Bool) : LineLevel :=
  match p with
  | .high => if high then .pressed else .released
  | .low => if high then .released else .pressed

/-- The most samples of a run that are counted: one more than the pressed-duration count can hold. -/
def runMax : Nat := 65536

/-- The pressed-duration count after a sample at which a run has lasted `length` samples (R56). -/
def LineRecord.countAfter (r : LineRecord) (level : LineLevel) (length : Nat) : Nat :=
  match r.state with
  | .pressed | .stuck => bump 65535 r.count
  | .waitRelease => if level = .pressed then min 65535 (length - 1) else 0
  | .ready => r.count
  | .disabled => 0

/-- One sample of an enabled line, with the four values that a run beginning at it records (R52, log 4). -/
def LineRecord.sample (r : LineRecord) (high : Bool) (now : RunStart) : LineRecord :=
  let level := r.polarity.read high
  let begins := r.fresh || level ≠ r.level
  let length := if begins then 1 else min runMax (r.runLength + 1)
  { r with
    level := level
    runLength := length
    fresh := false
    newRun := if begins then some now else r.newRun
    count := r.countAfter level length }

/-- A tick's sample of a line: a DISABLED line is not sampled (R51, R52). -/
def LineRecord.sampled (r : LineRecord) (high : Bool) (now : RunStart) : LineRecord :=
  if r.enabled then r.sample high now else r

/-- The current run has held for the filter time: F + 1 samples (R52). -/
def LineRecord.hasHeld (r : LineRecord) : Bool := r.filter + 1 ≤ r.runLength

/-- The current run is at a level and has held for the filter time. -/
def LineRecord.heldAt (r : LineRecord) (level : LineLevel) : Bool := r.level = level && r.hasHeld

/-! ### Line states (R53 to R57) -/

/-- LINE_RUN_START (R52): the four values taken at the run's first sample become the run start. -/
def execLineRunStart (n : Nat) (s : State) : Outcome :=
  .next
    (match (s.lineAt n).newRun with
    | some x =>
      if isTeamNumber n then s.setLineAt n { s.lineAt n with runStart := some x, newRun := none } else s
    | none => s)

/-- LINE_READY (R53). -/
def execLineReady (n : Nat) (s : State) : Outcome :=
  .next
    (if isTeamNumber n && (s.lineAt n).state = .waitRelease && (s.lineAt n).heldAt .released then
      s.setLineAt n { s.lineAt n with state := .ready }
    else s)

/-- What an accepted press does: the first row of R59's table whose condition holds decides. -/
def State.offerPress (s : State) (n : Nat) (run : RunStart) : State :=
  if !s.liveKind .buzz then s
  else if !run.live || run.serial ≠ s.engine.serial then s
  else s.offer ⟨n, run.clock, .console n, none, s.pausedMark || run.paused⟩

/-- The run start of the current run (R52): the one just taken, where LINE_RUN_START has not yet recorded it (log 4). -/
def LineRecord.currentRun (r : LineRecord) : Option RunStart := r.newRun <|> r.runStart

/-- A press is accepted (R54, R58, R59). -/
def State.acceptPress (s : State) (n : Nat) : State :=
  let t := s.setLineAt n { s.lineAt n with state := .pressed, count := 0 }
  match (s.lineAt n).currentRun with
  | some run => t.offerPress n run
  | none => t

/-- LINE_PRESS_ACCEPTED (R54). -/
def execLinePressAccepted (n : Nat) (s : State) : Outcome :=
  .next
    (if isTeamNumber n && (s.lineAt n).state = .ready && (s.lineAt n).heldAt .pressed then s.acceptPress n else s)

/-- LINE_RELEASE_ACCEPTED (R55): the count keeps its value. -/
def execLineReleaseAccepted (n : Nat) (s : State) : Outcome :=
  .next
    (if isTeamNumber n && (s.lineAt n).state = .pressed && (s.lineAt n).heldAt .released then
      s.setLineAt n { s.lineAt n with state := .ready }
    else s)

/-- The count at which a line is stuck, in ms (R56). -/
def stuckAt : Nat := 5000

/-- STUCK (R56). -/
def execStuck (n : Nat) (s : State) : Outcome :=
  .next
    (if isTeamNumber n && ((s.lineAt n).state = .pressed || (s.lineAt n).state = .waitRelease)
        && stuckAt ≤ (s.lineAt n).count then
      (s.setLineAt n { s.lineAt n with state := .stuck }).raise (.lineStuck n (s.lineAt n).state)
    else s)

/-- CLEARED (R57). -/
def execCleared (n : Nat) (s : State) : Outcome :=
  .next
    (if isTeamNumber n && (s.lineAt n).state = .stuck && (s.lineAt n).heldAt .released then
      (s.setLineAt n { s.lineAt n with state := .ready }).raise (.lineCleared n (s.lineAt n).count)
    else s)

/-! ### The lamp blink timer (R65) -/

/-- The other phase (R65). -/
def LampPhase.flip : LampPhase → LampPhase
  | .lit => .dark
  | .dark => .lit

/-- LAMP_BLINK_TIMER_EXPIRY (R65): the timer reloads and the phase changes. -/
def execLampBlinkTimerExpiry (s : State) : Outcome :=
  .next
    (if s.consoles.blinkLeft = 0 then
      s.setConsoles { s.consoles with blinkLeft := lampPeriod, phase := s.consoles.phase.flip }
    else s)

/-- A lamp is lit: ON, or BLINK in phase LIT (R65). -/
def LampState.isLit (x : LampState) (p : LampPhase) : Bool :=
  match x with
  | .off => false
  | .on => true
  | .blink => p = .lit

/-! ### SET LINE and READ LINE (R61, R62) -/

/-- A filter time: 0, 2, 5 or 10 ms (R51). -/
def filterOf (b : Byte) : Option Nat :=
  if b = 0 || b = 2 || b = 5 || b = 10 then some b.toNat else none

/-- A line enters WAIT RELEASE, and a new run begins at its next sample (R53, R61, R67; log 23). Its level stays as it is
until then, so that a line just enabled from DISABLED reads RELEASED LEVEL: the model's choice (log 40). -/
def LineRecord.waits (r : LineRecord) : LineRecord :=
  { r with state := .waitRelease, runStart := none, count := 0, runLength := 0, fresh := true, newRun := none }

/-- A line is DISABLED: not sampled, its level reads RELEASED LEVEL, run start absent, count 0 (R51, R61, R62). What the
level reads once the line is enabled again, before its first sample, is the model's choice (log 40). -/
def LineRecord.disabled (r : LineRecord) : LineRecord :=
  { r with
    state := .disabled, level := .released, runStart := none, count := 0, runLength := 0, fresh := true, newRun := none }

/-- A line's record after an accepted SET LINE (R61). -/
def LineRecord.setUp (r : LineRecord) (enabled : Bool) (p : Polarity) (filter : Nat) : LineRecord :=
  let x := { r with enabled := enabled, polarity := p, filter := filter }
  if enabled then x.waits else x.disabled

/-- SET LINE (R61): the reply carries the line number and its new state. -/
def carrySetLine (line enabled polarity filter : Byte) (s : State) : Carried :=
  match teamOf line, boolOfCode enabled, Polarity.ofCode polarity, filterOf filter with
  | some n, some e, some p, some f =>
    (s.setLineAt n ((s.lineAt n).setUp e p f)).done (form1 n ++ [((s.lineAt n).setUp e p f).state.code])
  | _, _, _, _ => s.refuse .outOfRange

/-- R61. -/
def execSetLine (line enabled polarity filter : Byte) (s : State) : Outcome :=
  desk (.setLine line enabled polarity filter) (carrySetLine line enabled polarity filter) s

/-- A line record as READ LINE returns it, with the states of its two lamps (R62). -/
def State.lineView (s : State) (n : Nat) : List Byte :=
  let r := s.lineAt n
  formBool r.enabled ++ [r.polarity.code] ++ form1 r.filter
    ++ [r.state.code, (if r.state = .disabled then LineLevel.released else r.level).code] ++ form2 r.count
    ++ [(s.consoles.floorLamps.getD (n - 1) .off).code, (s.consoles.lockLamps.getD (n - 1) .off).code]

/-- READ LINE (R62). -/
def carryReadLine (line : Byte) (s : State) : Carried :=
  match teamOf line with
  | some n => s.done (s.lineView n)
  | none => s.refuse .outOfRange

/-- R62. -/
def execReadLine (line : Byte) (s : State) : Outcome := desk (.readLine line) (carryReadLine line) s

/-! ### The show reset (R67) -/

/-- A line after a show reset: settings kept, WAIT RELEASE unless it is DISABLED (R67). -/
def LineRecord.showReset (r : LineRecord) : LineRecord := if r.state = .disabled then r else r.waits

/-- The unit after a show reset: lamps OFF, blink timer and phase kept (R67). -/
def ConsoleUnit.showReset (x : ConsoleUnit) : ConsoleUnit :=
  { x with
    records := x.records.map LineRecord.showReset
    floorLamps := List.replicate teamCount .off
    lockLamps := List.replicate teamCount .off }

end Sys2Proof.Machine
end

