-- ==== Sys2Proof/Machine/Engine.lean ====
section
/-! DEFINITION. The Round Engine (02_the_round_engine.md): starting and opening a round, its three timers, the engine
commands, and what happens when the round clock reaches a settle deadline or its maximum. -/

namespace Sys2Proof.Machine

/-- The reply data of an engine command: the engine state, and the remembered state or absent (R22, R196, log 15). -/
def State.engineReply (s : State) : List Byte :=
  [s.engine.state.code] ++ formCode? (s.engine.remembered.map EngineState.code)

/-! ### Starting a round (R24, R29) -/

/-- A fresh round context (R24). -/
def Context.fresh (k : Fin 128) (kind : RoundKind) (serial : BitVec 8) (readingMs : Nat) : Context :=
  { Context.blank with slot := k, kind := kind, serial := serial, readingLeft := readingMs }

/-- The teams that a CHOICE round's TEAMS view counts: of the team set and playing (R124, R131). -/
def countedTeams (s : State) (d : Descriptor) : BitVec 24 :=
  teamNumbers.foldl (fun acc t => if inSet d.teamSet t && s.standings.isPlaying t then acc ||| BitVec.twoPow 24 (t - 1)
    else acc) 0

/-- START ROUND's work (R29): the round in the pointer slot enters READING. -/
def State.start (s : State) : State :=
  let k := s.list.pointer
  let d := (s.slotAt k).setup
  let serial := s.engine.serial + 1
  let t := s.setSlot k { s.slotAt k with result := RoundResult.cleared }
  let u := t.setEngine
    ⟨.reading, none, 0, serial, s.engine.tieStart, some (Context.fresh k d.kind serial (secondsMs d.readingLimit))⟩
  (u.setAnswers (Collector.started serial ⟨d.kind, d.options.toNat, d.key, countedTeams s d⟩)).raise
    (.roundStarted k d.kind)

/-- START ROUND (R22, R29): the reply carries the engine state, the slot and the new serial. -/
def carryStartRound (s : State) : Carried :=
  if s.engine.state ≠ .cued then s.refuse .wrongState
  else if s.standings.frozen then s.refuse .frozen
  else
    s.start.done
      ([s.start.engine.state.code] ++ form1 s.start.context.slot.val ++ form1 s.start.engine.serial.toNat)

/-- R22, R29. -/
def execStartRound (s : State) : Outcome := desk .startRound carryStartRound s

/-! ### Opening a round (R30) -/

/-- The seconds shown for a remaining time in ms: divided by 1000 and rounded up (R33). -/
def secondsShown (ms : Nat) : Nat := (ms + 999) / 1000

/-- The tie pointer advanced: 24 goes to 1 (R28). -/
def nextTieStart (t : Nat) : Nat := if t = 24 then 1 else t + 1

/-- The context at the entry to OPEN (R30). -/
def Context.opened (c : Context) (clock limitMs : Nat) : Context :=
  { c with openTime := some clock, roundLeft := some limitMs, lastSecond := some (secondsShown limitMs) }

/-- The tie pointer at the entry to OPEN from READING: it advances in a BUZZ round only (R28). -/
def State.openTieStart (s : State) : Nat :=
  if s.context.kind = .buzz then nextTieStart s.engine.tieStart else s.engine.tieStart

/-- A round enters OPEN from READING (R30): TIMER SECOND, then ROUND OPENED. -/
def State.openRound (s : State) : State :=
  let t := s.setEngine
    { s.engine with
      state := .opened
      tieStart := s.openTieStart
      round := s.engine.round.map fun c => c.opened s.engine.clock s.setup.timeLimitMs }
  (t.raise (.timerSecond (secondsShown s.setup.timeLimitMs))).raise
    (.roundOpened s.context.slot s.engine.clock (if s.context.kind = .buzz then some s.openTieStart else none))

/-- OPEN ROUND (R22, R30). -/
def carryOpenRound (s : State) : Carried :=
  if s.engine.state = .reading then s.openRound.done s.openRound.engineReply else s.refuse .wrongState

/-- R22, R30. -/
def execOpenRound (s : State) : Outcome := desk .openRound carryOpenRound s

/-- READING_TIMER_EXPIRY (R31). -/
def execReadingTimerExpiry (s : State) : Outcome :=
  .next
    (if s.engine.state = .reading && s.context.readingLeft = 0 then
      (s.raise (.timerExpired .reading none none)).openRound
    else s)

/-! ### The round timer (R32, R33, R37) -/

/-- The round timer counts: in OPEN, and in SETTLING until time is called (R21, R32). -/
def State.roundTimerCounts (s : State) : Bool :=
  s.engine.state = .opened || (s.engine.state = .settling && !s.context.timeCalled)

/-- The warning that goes with a second: at 10 or 5 when T is greater (R33). -/
def State.warns (s : State) (seconds : Nat) : Bool :=
  (seconds = 10 && 10000 < s.setup.timeLimitMs) || (seconds = 5 && 5000 < s.setup.timeLimitMs)

/-- A new whole second is reported (R33): TIMER SECOND, then the warning. -/
def State.tellSecond (s : State) (seconds : Nat) : State :=
  let t := (s.mapContext fun c => { c with lastSecond := some seconds }).raise (.timerSecond seconds)
  if s.warns seconds then t.raise (.timerWarning seconds) else t

/-- ROUND_TIMER_SECOND (R33). -/
def execRoundTimerSecond (s : State) : Outcome :=
  .next
    (match s.context.roundLeft with
    | some ms =>
      if s.roundTimerCounts && 0 < ms && s.context.lastSecond ≠ some (secondsShown ms) then
        s.tellSecond (secondsShown ms)
      else s
    | none => s)

/-- Time is called in a BUZZ round (R37, R103); the countdown then shows 0 (R34, log 24). -/
def State.callTime (s : State) : State :=
  (((((s.mapContext fun c =>
      { c with timeCalled := true, expiryStamp := some s.engine.clock, lastSecond := some 0 }).raise
    (.timerExpired .round (some s.engine.clock) none)).enter .settling)).withdrawLate).testGrant

/-- The round timer has reached 0 (R32): time is called, or the round goes to TALLYING. -/
def State.roundTimeUp (s : State) : State :=
  if s.context.kind = .buzz then s.callTime else (s.raise (.timerExpired .round none none)).enterTallying

/-- ROUND_TIMER_EXPIRY (R32). -/
def execRoundTimerExpiry (s : State) : Outcome :=
  .next (if s.roundTimerCounts && s.context.roundLeft = some 0 then s.roundTimeUp else s)

/-! ### The answer timer (R35, R39) -/

/-- The remaining time from which the holder's lamp blinks, in ms (R35, R63). -/
def blinkFrom : Nat := 5000

/-- ANSWER_TIMER_BLINK (R35, R63). -/
def execAnswerTimerBlink (s : State) : Outcome :=
  .next
    (match s.context.holder, s.context.answerLeft with
    | some h, some ms =>
      if s.engine.state = .floor && ms ≤ blinkFrom then s.setFloorLamp h.team .blink else s
    | _, _ => s)

/-- The answer timer has reached 0 on a holder: TIMER EXPIRED, then a TIMEOUT verdict (R35, R39). -/
def State.answerTimeUp (s : State) (h : Holder) : State :=
  (s.raise (.timerExpired .answer none (some h.team))).judgeWrong h .timeout

/-- ANSWER_TIMER_EXPIRY (R35, R39). -/
def execAnswerTimerExpiry (s : State) : Outcome :=
  .next
    (match s.context.holder with
    | some h => if s.engine.state = .floor && s.context.answerLeft = some 0 then s.answerTimeUp h else s
    | none => s)

/-! ### The round clock (R26, R101) -/

/-- SETTLE_DEADLINE_REACHED (R101): the grant condition is tested. -/
def execSettleDeadlineReached (s : State) : Outcome := .next s.testGrant

/-- ROUND_CLOCK_HOLD (R26): a settle deadline above the clock's maximum counts as reached, and the grant condition is
tested. -/
def execRoundClockHold (s : State) : Outcome := .next (if s.engine.clock = clockMax then s.testGrant else s)

/-! ### Judging, closing and revealing (R22, R38, R40, R42) -/

/-- CLOSE ROUND (R22, R40). -/
def carryCloseRound (s : State) : Carried :=
  if s.engine.state = .opened && s.context.kind ≠ .buzz then s.enterTallying.done s.enterTallying.engineReply
  else s.refuse .wrongState

/-- R22, R40. -/
def execCloseRound (s : State) : Outcome := desk .closeRound carryCloseRound s

/-- The verdict on the floor holder: RIGHT 0, WRONG 1 (R38, R196). -/
def State.judgeBy (s : State) (h : Holder) (right : Bool) : State :=
  if right then s.judgeRight h else s.judgeWrong h .wrong

/-- JUDGE (R22, R38): the state before the value. -/
def carryJudge (v : Byte) (s : State) : Carried :=
  if s.engine.state ≠ .floor then s.refuse .wrongState
  else if 1 < v.toNat then s.refuse .outOfRange
  else
    match s.context.holder with
    | some h => (s.judgeBy h (v = 0)).done (s.judgeBy h (v = 0)).engineReply
    | none => s.refuse .wrongState

/-- R22, R38. -/
def execJudge (v : Byte) (s : State) : Outcome := desk (.judge v) (carryJudge v) s

/-- REVEAL KEY (R22, R42): the state before the value. -/
def carryRevealKey (option : Byte) (s : State) : Carried :=
  if s.engine.state ≠ .awaitKey then s.refuse .wrongState
  else
    match OptKey.ofCode option with
    | some k =>
      if k.place ≤ s.setup.options.toNat then (s.keyTally k).done (s.keyTally k).engineReply else s.refuse .outOfRange
    | none => s.refuse .outOfRange

/-- R22, R42. -/
def execRevealKey (option : Byte) (s : State) : Outcome := desk (.revealKey option) (carryRevealKey option) s

/-! ### Pausing (R43 to R45) -/

/-- The states in which PAUSE is accepted (R22, R43). -/
def EngineState.pausable : EngineState → Bool
  | .reading | .opened | .settling | .floor | .awaitKey => true
  | .idle | .cued | .tallying | .paused => false

/-- PAUSE's work (R43). -/
def State.pause (s : State) : State :=
  (s.setEngine { s.engine with state := .paused, remembered := some s.engine.state }).raise
    (.roundPaused s.engine.state s.engine.clock)

/-- PAUSE (R22, R43). -/
def carryPause (s : State) : Carried :=
  if s.engine.state.pausable then s.pause.done s.pause.engineReply else s.refuse .wrongState

/-- R22, R43. -/
def execPause (s : State) : Outcome := desk .pause carryPause s

/-- The return to the remembered state (R44). -/
def State.unpause (s : State) : State :=
  (s.setEngine { s.engine with state := s.phase, remembered := none }).raise (.roundResumed s.phase s.engine.clock)

/-- The change to SETTLING that an admission in the pause called for is made (R45). -/
def State.settleNow (s : State) : State := (s.mapContext fun c => { c with settleDue := false }).enter .settling

/-- RESUME's work (R44, R45): a claim admitted during a pause of OPEN makes its state change now, also where it has been
withdrawn since, and the grant condition is tested. -/
def State.resume (s : State) : State :=
  if s.phase = .opened && s.context.settleDue then s.unpause.settleNow.testGrant else s.unpause.testGrant

/-- RESUME (R22, R44). -/
def carryResume (s : State) : Carried :=
  if s.engine.state = .paused then s.resume.done s.resume.engineReply else s.refuse .wrongState

/-- R22, R44. -/
def execResume (s : State) : Outcome := desk .resume carryResume s

/-! ### Abandoning (R46) -/

/-- ABANDON's work (R46, R130). -/
def State.abandon (s : State) : State := s.discardTally.close .abandoned

/-- ABANDON (R22, R46). -/
def carryAbandon (s : State) : Carried :=
  if s.live then s.abandon.done s.abandon.engineReply else s.refuse .wrongState

/-- R22, R46. -/
def execAbandon (s : State) : Outcome := desk .abandon carryAbandon s

end Sys2Proof.Machine
end

