-- ==== Sys2Proof/Machine/Intake.lean ====
section
/-! DEFINITION. The Handset Intake (04_handset_intake_and_the_roster.md): the pad port, the intake FIFO, takes, and the
commands SET RECEIVER, READ RECEIVER and READ INTAKE. -/

namespace Sys2Proof.Machine

/-! ### Receivers (R71) -/

/-- One more frame refused against a receiver; a number above 3 names none (R71). -/
def State.countRefused (s : State) (r : Nat) : State :=
  if r ≤ 3 then s.setReceiverAt r { s.receiverAt r with refused := bump 65535 (s.receiverAt r).refused } else s

/-- One more frame accepted against a receiver (R71). -/
def State.countAccepted (s : State) (r : Nat) : State :=
  s.setReceiverAt r { s.receiverAt r with accepted := bump 65535 (s.receiverAt r).accepted }

/-- A receiver id as BAD FRAME carries it: absent when it did not arrive or is above 3 (R69). -/
def receiverTold (receiver : Option Byte) : Option Nat :=
  match receiver with
  | some r => if r.toNat ≤ 3 then some r.toNat else none
  | none => none

/-- A pad frame is discarded (R69, R71). -/
def State.badFrame (s : State) (reason : BadFrameReason) (receiver : Option Byte) : State :=
  match receiverTold receiver with
  | some r => (s.countRefused r).raise (.badFrame reason (some r))
  | none => s.raise (.badFrame reason none)

/-! ### The pad port and the FIFO (R69, R70, R72) -/

/-- The most entries the intake FIFO holds (R72). -/
def fifoLimit : Nat := 32

/-- A handset id that a frame or a command may carry: 1..65534 (R68, R86). -/
def handsetOk (h : BitVec 16) : Bool := h ≠ 0 && h ≠ 0xFFFF

/-- The first check that a pad frame fails, in the order of R69. -/
def State.padFault (s : State) (f : PadFrame) : Option BadFrameReason :=
  if f.check ≠ xorAll f.covered then some .check
  else if 3 < f.receiver.toNat || !(s.receiverAt f.receiver.toNat).enabled then some .receiver
  else if !handsetOk f.handset then some .handsetId
  else if (PadKey.ofCode f.key).isNone then some .key
  else none

/-- The FIFO entry that a good frame makes at its arrival (R27, R70). -/
def State.entryOf (s : State) (f : PadFrame) : FifoEntry where
  receiver := f.receiver.toNat
  handset := f.handset
  key := (PadKey.ofCode f.key).getD .hello
  sequence := f.sequence.toNat % 16
  batteryLow := f.sequence.getLsbD 7
  age := f.age.toNat
  serial := s.engine.serial
  paused := s.pausedMark
  arrival := if s.live then some s.engine.clock else none

/-- A good frame dropped at a full FIFO (R72): refused against its receiver, and OVERRUN for the first such drop. -/
def State.overrunDrop (s : State) (r : Nat) : State :=
  let t := s.countRefused r
  if s.intake.overrun then t
  else (t.setIntake { t.intake with overrun := true }).raise (.overrun r)

/-- A good frame arrives (R70, R72); into an empty FIFO it begins a take (R75). -/
def State.arrive (s : State) (f : PadFrame) : State :=
  if s.intake.fifo.length < fifoLimit then
    let t := s.countAccepted f.receiver.toNat
    t.setIntake { t.intake with fifo := t.intake.fifo ++ [s.entryOf f], taking := true }
  else s.overrunDrop f.receiver.toNat

/-- A pad frame's eighth byte has arrived (R69, R70). -/
def State.padFrame (s : State) (f : PadFrame) : State :=
  match s.padFault f with
  | some reason => s.badFrame reason (some f.receiver)
  | none => s.arrive f

/-- The port waits for a sync byte. -/
def State.padWaits (s : State) : State := s.setIntake { s.intake with port := none, portGap := 0 }

/-- A byte outside a pad frame (R69). -/
def State.padByteOutside (s : State) (b : Byte) : State :=
  if b = padSync then s.setIntake { s.intake with port := some [], portGap := 0 } else s

/-- A byte inside a pad frame, after the bytes `received` (R69). -/
def State.padByteInside (s : State) (received : List Byte) (b : Byte) : State :=
  match PadFrame.ofTail (received ++ [b]) with
  | some f => s.padWaits.padFrame f
  | none => s.setIntake { s.intake with port := some (received ++ [b]), portGap := 0 }

/-- A runt is discarded (R69). -/
def State.runt (s : State) (received : List Byte) : State := s.padWaits.badFrame .runt received.head?

/-- The most ms between two bytes of a pad frame (R69). -/
def padGapLimit : Nat := 1

/-- A byte arrives at the pad port (R69). -/
def State.padByte (s : State) (b : Byte) : State :=
  match s.intake.port with
  | none => s.padByteOutside b
  | some received =>
    if padGapLimit < s.intake.portGap then (s.runt received).padByteOutside b else s.padByteInside received b

/-- PAD_BYTE_RECEIVED (R69). -/
def execPadByteReceived (b : Byte) (s : State) : Outcome := .next (s.padByte b)

/-- The bytes of a pad frame that are still to come (log 28). -/
def Intake.bytesToCome (x : Intake) (bytes : List Byte) : List Byte :=
  match x.port with
  | none => bytes
  | some received => (stillToCome bytes (padSync :: received)).getD bytes

/-- PAD_FRAME_ARRIVAL (R69, R70): the rest of the frame arrives (log 28). -/
def execPadFrameArrival (f : PadFrame) (s : State) : Outcome :=
  .next ((s.intake.bytesToCome f.bytes).foldl State.padByte s)

/-- PAD_RUNT (R69, log 6). -/
def execPadRunt (s : State) : Outcome :=
  .next
    (match s.intake.port with
    | some received => if padGapLimit ≤ s.intake.portGap then s.runt received else s
    | none => s)

/-! ### Taking an entry (R75 to R84) -/

/-- The roster position of a handset (R76). -/
def Intake.positionOf (x : Intake) (h : BitVec 16) : Option Nat :=
  x.roster.findIdx? fun r => (r.map RosterEntry.handset) = some h

/-- The roster entry at a position. -/
def Intake.rosterAt (x : Intake) (p : Nat) : Option RosterEntry := x.roster.getD p none

/-- The intake with the entry at a roster position replaced. -/
def Intake.setRosterAt (x : Intake) (p : Nat) (r : Option RosterEntry) : Intake :=
  { x with roster := x.roster.set p r }

/-- The guest map index of a handset id (R77). -/
def guestIndex (h : BitVec 16) : Nat := h.toNat * 40503 % 65536 / 1024

/-- A position of the guest map is set; position 0 is the top bit of the first byte (R88, R196). -/
def guestSet (positions : BitVec 64) (i : Nat) : Bool := positions.getLsbD (63 - i)

/-- The stamp of a key: its arrival clock, less its age, less its receiver's offset as it stands now (R82). -/
def State.stampOf (s : State) (e : FifoEntry) (arrival : Nat) : Int :=
  (arrival : Int) - e.age - (s.receiverAt e.receiver).offset

/-- R79: the entry is the second copy of the last press taken from the handset. -/
def FifoEntry.repeats (e : FifoEntry) (r : RosterEntry) : Bool :=
  r.lastSequence = some e.sequence && r.lastSerial = some e.serial

/-- R79: a repeat that is offered again as a replacement: a BUZZ whose stamp is earlier than its team's queued claim. -/
def State.repeatImproves (s : State) (e : FifoEntry) (team : Nat) : Bool :=
  match e.arrival, s.arbiter.claimOf team with
  | some a, some c => e.key = .buzz && s.stampOf e a < c.stamp
  | _, _ => false

/-- R80: the roster entry brought up to date. -/
def RosterEntry.updated (r : RosterEntry) (e : FifoEntry) : RosterEntry :=
  { r with lastSequence := some e.sequence, lastSerial := some e.serial, present := true, batteryLow := e.batteryLow }

/-- The ROSTER events of an update: PRESENT, then the battery (R80, log 35). -/
def RosterEntry.updateEvents (r : RosterEntry) (e : FifoEntry) : List Event :=
  (if r.present then [] else [.handsetPresent r.handset r.team r.seat])
    ++ (if r.batteryLow = e.batteryLow then []
      else if e.batteryLow then [.batteryLow r.handset r.team r.seat] else [.batteryOk r.handset r.team r.seat])

/-- R80: the roster is brought up to date, and its events are raised. -/
def State.updateRoster (s : State) (e : FifoEntry) (p : Nat) (r : RosterEntry) : State :=
  (s.setIntake (s.intake.setRosterAt p (some (r.updated e)))).raiseAll (r.updateEvents e)

/-- R83: a BUZZ key that has passed the round checks. -/
def State.dispatchBuzz (s : State) (e : FifoEntry) (team : Option Nat) (arrival : Nat) : State :=
  match team with
  | some t =>
    if s.context.kind = .buzz && isTeamNumber t then
      s.offer ⟨t, s.stampOf e arrival, .handset e.handset e.receiver, some arrival, e.paused⟩
    else s
  | none => s

/-- R83, R84: a key that has passed the round checks is dispatched. -/
def State.dispatch (s : State) (e : FifoEntry) (position team : Option Nat) (arrival : Nat) : State :=
  match e.key with
  | .buzz => s.dispatchBuzz e team arrival
  | .option k => s.answer ⟨e.handset, position, team, k, s.stampOf e arrival, arrival, e.paused⟩
  | .hello => s

/-- R81: the entry is outside the round. -/
def State.outsideRound (s : State) (e : FifoEntry) : Bool :=
  !s.live || e.arrival.isNone || e.serial ≠ s.engine.serial

/-- R81, R82: the round checks of a BUZZ or option key; a stale key is dropped unless it is marked PAUSED. -/
def State.checkRound (s : State) (e : FifoEntry) (position team : Option Nat) : State :=
  if s.outsideRound e then s.setIntake { s.intake with outside := bump 65535 s.intake.outside }
  else
    match e.arrival with
    | some a =>
      if !e.paused && s.stampOf e a < 0 then s.setIntake { s.intake with stale := bump 65535 s.intake.stale }
      else s.dispatch e position team a
    | none => s

/-- R80, R81: a HELLO ends its handling here; any other key goes on to the round checks. -/
def State.handleKey (s : State) (e : FifoEntry) (position team : Option Nat) : State :=
  if e.key = .hello then s else s.checkRound e position team

/-- R79, R80: the handling of a roster handset's entry. -/
def State.handleRoster (s : State) (e : FifoEntry) (p : Nat) (r : RosterEntry) : State :=
  if e.repeats r && !s.repeatImproves e r.team then
    s.setIntake { s.intake with repeats := bump 65535 s.intake.repeats }
  else (s.updateRoster e p r).handleKey e (some p) (some r.team)

/-- R76: the entry at a roster position, if the handset has one. -/
def Intake.rosterEntryOf (x : Intake) (h : BitVec 16) : Option (Nat × RosterEntry) :=
  (x.positionOf h).bind fun p => (x.rosterAt p).map fun r => (p, r)

/-- R76, R78: the handling of an entry: a roster handset, a guest, or an unknown handset. -/
def State.handle (s : State) (e : FifoEntry) : State :=
  match s.intake.rosterEntryOf e.handset with
  | some (p, r) => s.handleRoster e p r
  | none =>
    if guestSet s.intake.guestMap (guestIndex e.handset) then s.handleKey e none none
    else s.raise (.unknownHandset e.handset e.receiver)

/-- The front entry leaves the FIFO; the next take begins when one remains, and an empty FIFO clears the overrun mark
(R72, R75). -/
def Intake.pop (x : Intake) : Intake :=
  { x with
    fifo := x.fifo.tail
    taking := x.fifo.tail ≠ []
    overrun := x.overrun && x.fifo.tail ≠ [] }

/-- The completion of a take (R75): the entry is handled, it leaves the FIFO, and the arbiter and the engine are
told. -/
def State.completeTake (s : State) (e : FifoEntry) : State :=
  let t := s.handle e
  (t.setIntake t.intake.pop).testGrant.testTally

/-- TAKE_COMPLETE (R75). -/
def execTakeComplete (s : State) : Outcome :=
  .next
    (match s.intake.fifo with
    | e :: _ => if s.intake.taking then s.completeTake e else s
    | [] => s)

/-! ### Commands (R71, R74) -/

/-- A receiver number of a command, 0..3. -/
def receiverOf (b : Byte) : Option Nat := if b.toNat ≤ 3 then some b.toNat else none

/-- SET RECEIVER (R71): an offset above 63 is clamped to 63. -/
def carrySetReceiver (receiver enabled offset : Byte) (s : State) : Carried :=
  match receiverOf receiver, boolOfCode enabled with
  | some r, some e =>
    (s.setReceiverAt r { s.receiverAt r with enabled := e, offset := min 63 offset.toNat }).done
      (form1 r ++ form1 (min 63 offset.toNat))
  | _, _ => s.refuse .outOfRange

/-- R71. -/
def execSetReceiver (receiver enabled offset : Byte) (s : State) : Outcome :=
  desk (.setReceiver receiver enabled offset) (carrySetReceiver receiver enabled offset) s

/-- READ RECEIVER (R71). -/
def carryReadReceiver (receiver : Byte) (s : State) : Carried :=
  match receiverOf receiver with
  | some r =>
    let x := s.receiverAt r
    s.done (formBool x.enabled ++ form1 x.offset ++ form2 x.accepted ++ form2 x.refused)
  | none => s.refuse .outOfRange

/-- R71. -/
def execReadReceiver (receiver : Byte) (s : State) : Outcome := desk (.readReceiver receiver) (carryReadReceiver receiver) s

/-- READ INTAKE (R74). -/
def carryReadIntake (s : State) : Carried :=
  s.done
    (form1 s.intake.fifo.length ++ formBool s.intake.taking ++ formBool s.intake.overrun ++ form2 s.intake.repeats
      ++ form2 s.intake.outside ++ form2 s.intake.stale)

/-- R74. -/
def execReadIntake (s : State) : Outcome := desk .readIntake carryReadIntake s

/-! ### The show reset (R91) -/

/-- A roster entry after a show reset (R91): membership and battery mark are kept. -/
def RosterEntry.showReset (r : RosterEntry) : RosterEntry :=
  { r with lastSequence := none, lastSerial := none, present := false }

/-- The intake after a show reset (R91). -/
def Intake.showReset (x : Intake) : Intake :=
  { x with
    receivers := x.receivers.map fun r => { r with accepted := 0, refused := 0 }
    fifo := []
    taking := false
    overrun := false
    repeats := 0
    outside := 0
    stale := 0
    port := none
    portGap := 0
    roster := x.roster.map (Option.map RosterEntry.showReset) }

end Sys2Proof.Machine
end

