-- ==== Sys2Proof/Machine/Link.lean ====
section
/-! DEFINITION. The Control Link (10_the_control_link.md): the bytes and frames it receives, the frames it answers
without carrying them out, its own commands, and what it sends. -/

namespace Sys2Proof.Machine

/-! ### Bytes and frames received (R181, R183, R184) -/

/-- MODE_BYTE (R181): in LISTEN 0x6C or 0x93 selects the mode; in a mode the byte is an ordinary one. -/
def execModeByte (b : Byte) (s : State) : Outcome := .next (s.linkByte b)

/-- LINK_BYTE_RECEIVED (R183). -/
def execLinkByteReceived (b : Byte) (s : State) : Outcome := .next (s.linkByte b)

/-- COMMAND_FRAME_COMPLETE (R183, R184): the rest of the frame arrives, up to its check byte (log 3). -/
def execCommandFrameComplete (f : LinkFrame) (s : State) : Outcome := .next (s.receiveFrame f)

/-- LINK_FRAME_ABANDONED (R183): the length byte of a frame arrives (log 3). -/
def execLinkFrameAbandoned (length : Byte) (s : State) : Outcome :=
  .next (if s.link.mode = .listen then s else s.linkBytes (s.link.bytesToCome [linkStart, length]))

/-- LINK_FRAME_GAP (R183, log 6). -/
def execLinkFrameGap (s : State) : Outcome :=
  .next
    (match s.link.receiving with
    | some received => if linkGapLimit ≤ s.link.gap then s.linkGapAbandon received else s
    | none => s)

/-! ### Frames that fail the checks of R185 -/

/-- The code that answers a frame failing a check of R185, the first failure deciding; none when it passes. -/
def frameFailure (f : LinkFrame) : Option ReplyCode :=
  if !f.checkGood then some .badCheck
  else
    match payloadLength f.kind with
    | none => some .unknownKind
    | some n => if f.payload.length = n then none else some .badLength

/-- The state in which a failing frame is to be answered: where it is not at the front of the buffer, it arrives first
(log 3). -/
def State.bringFrame (s : State) (f : LinkFrame) : State := if s.frontFrame = some f then s else s.receiveFrame f

/-- UNKNOWN_KIND (R185): the front frame fails a check and is answered with that check's code, no data, and the kind
byte as received (log 21). -/
def execUnknownKind (f : LinkFrame) (s : State) : Outcome :=
  .next
    (match frameFailure f with
    | some code =>
      if (s.bringFrame f).frontFrame = some f then (s.bringFrame f).reply ⟨f.kind, code, []⟩ else s.bringFrame f
    | none => s)

/-! ### The link's own commands (R182, R187 to R190, R193, R194) -/

/-- IDENTIFY (R193): J2400, revision 1, mode, rate. -/
def carryIdentify (s : State) : Carried :=
  s.done ([0x4A, 0x32, 0x34, 0x30, 0x30, 0x01, s.link.mode.code] ++ form1 s.link.rate)

/-- R193. -/
def execIdentify (s : State) : Outcome := desk .identify carryIdentify s

/-- SET RATE (R182): the new rate waits until the reply has been sent. -/
def carrySetRate (rate : Byte) (s : State) : Carried :=
  if !s.link.rateWindow then s.refuse .wrongState
  else if 3 < rate.toNat then s.refuse .outOfRange
  else (s.setLink { s.link with newRate := some rate.toNat }).done [rate]

/-- R182. -/
def execSetRate (rate : Byte) (s : State) : Outcome := desk (.setRate rate) (carrySetRate rate) s

/-- What STATUS GET returns (R190). -/
def State.statusView (s : State) : List Byte :=
  [s.engine.state.code] ++ formCode? (s.engine.remembered.map EngineState.code)
    ++ form1? (if s.engine.state = .idle then none else some s.list.pointer.val) ++ [s.board.state.code]
    ++ formBool s.standings.frozen ++ formClasses s.link.flags ++ form1 s.link.queue.length ++ formBool s.link.lost
    ++ formBool s.link.hold.isSome

/-- STATUS GET (R190): all 12 flags are cleared when the reply is made. -/
def carryStatusGet (s : State) : Carried := (s.setLink { s.link with flags := 0 }).done s.statusView

/-- R190. -/
def execStatusGet (s : State) : Outcome := desk .statusGet carryStatusGet s

/-- SET NOTICE MASK (R189). -/
def carrySetNoticeMask (classes : BitVec 16) (s : State) : Carried :=
  if classes.toNat < 4096 then
    (s.setLink { s.link with mask := classes.setWidth 12 }).done (formClasses (classes.setWidth 12))
  else s.refuse .outOfRange

/-- R189. -/
def execSetNoticeMask (classes : BitVec 16) (s : State) : Outcome :=
  desk (.setNoticeMask classes) (carrySetNoticeMask classes) s

/-- HOLD REPORTS (R188): a nonzero time begins or reloads the hold, 0 ends it. -/
def carryHoldReports (time : BitVec 16) (s : State) : Carried :=
  if s.link.mode = .singleWire then s.refuse .wrongState
  else (s.setLink { s.link with hold := if time = 0 then none else some time.toNat }).done []

/-- R188. -/
def execHoldReports (time : BitVec 16) (s : State) : Outcome := desk (.holdReports time) (carryHoldReports time) s

/-- FETCH REPORTS (R187): the count k is fixed when the reply is made. -/
def carryFetchReports (count : Byte) (s : State) : Carried :=
  if s.link.mode ≠ .singleWire then s.refuse .wrongState
  else if count = 0 || 8 < count.toNat then s.refuse .outOfRange
  else
    (s.setLink { s.link with fetchLeft := min count.toNat s.link.queue.length }).done
      (form1 (min count.toNat s.link.queue.length))

/-- R187. -/
def execFetchReports (count : Byte) (s : State) : Outcome := desk (.fetchReports count) (carryFetchReports count) s

/-- SHOW RESET (R194): the show reset follows the last byte of this reply. -/
def carryShowReset (s : State) : Carried := (s.setLink { s.link with showReset := .asked }).done []

/-- R194. -/
def execShowReset (s : State) : Outcome := desk .showReset carryShowReset s

/-! ### Sending (R182, R184, R186 to R188, R191) -/

/-- REPLY_SEND_BEGIN (R186): a waiting reply begins when the line is free. -/
def execReplySendBegin (s : State) : Outcome :=
  .next
    (match s.link.reply with
    | some r => if s.link.line = .free then s.setLink { s.link with line := .reply r, reply := none } else s
    | none => s)

/-- The front frame leaves the buffer: its reply has been sent (R184), or the last report of its fetch (R187). -/
def Link.frameAnswered (l : Link) : Link := { l with buffer := l.buffer.tail, carriedOut := false }

/-- The show reset of an answered SHOW RESET is due (R194). -/
def ShowResetPhase.afterReply : ShowResetPhase → ShowResetPhase
  | .asked => .due
  | .idle => .idle
  | .due => .due

/-- The link once the last byte of a reply has been sent: a new rate applies (R182), the frame leaves the buffer unless
fetched reports are still to follow (R184, R187), and a show reset asked for is due (R194). -/
def Link.replySent (l : Link) : Link :=
  let m := { l with
    line := .free, rate := l.newRate.getD l.rate, newRate := none, showReset := l.showReset.afterReply }
  if l.fetchLeft = 0 then m.frameAnswered else m

/-- REPLY_SENT (R182, R184, R194). -/
def execReplySent (s : State) : Outcome :=
  .next
    (match s.link.line with
    | .reply _ => s.setLink s.link.replySent
    | .free | .report _ => s)

/-- A report may begin (R186, R187): the line is free and no reply waits; in TWO-WIRE no hold is in force, in
SINGLE-WIRE fetched reports are still to be sent. -/
def Link.mayReport (l : Link) : Bool :=
  l.line = .free && l.reply = none &&
    match l.mode with
    | .listen => false
    | .singleWire => 0 < l.fetchLeft
    | .twoWire => l.hold = none

/-- REPORT_SEND_BEGIN (R186, R187): the oldest report begins. -/
def execReportSendBegin (s : State) : Outcome :=
  .next
    (match s.link.queue with
    | r :: _ => if s.link.mayReport then s.setLink { s.link with line := .report r } else s
    | [] => s)

/-- One fetched report fewer to send; after the last the frame leaves the buffer (R187). -/
def Link.fetchedOne (l : Link) : Link :=
  if l.fetchLeft = 0 then l
  else if l.fetchLeft = 1 then { l with fetchLeft := 0 }.frameAnswered
  else { l with fetchLeft := l.fetchLeft - 1 }

/-- REPORT_SENT (R186, R187, R191): the report leaves the queue, and an overflow is told in the place it frees. -/
def execReportSent (s : State) : Outcome :=
  .next
    (match s.link.line with
    | .report _ =>
      let t := (s.setLink { s.link with line := .free, queue := s.link.queue.tail }).tellOverflow
      t.setLink t.link.fetchedOne
    | .free | .reply _ => s)

/-- REPORT_HOLD_EXPIRY (R188). -/
def execReportHoldExpiry (s : State) : Outcome :=
  .next (if s.link.hold = some 0 then s.setLink { s.link with hold := none } else s)

end Sys2Proof.Machine
end

