-- ==== Sys2Proof/Machine/Reset.lean ====
section
/-! DEFINITION. The two resets: HARD_RESET, and the show reset that follows a SHOW RESET reply (R194). -/

namespace Sys2Proof.Machine

/-- The part after a hard reset; the queue of waiting steps and the counter of the free values are the model's own and
stay (log 10). -/
def State.hardReset (s : State) : State := (State.reset.setFree s.free).setPending s.pending

/-- HARD_RESET (R19, R49, R66, R90, R113, R115, R153, R164, R180, R195). -/
def execHardReset (s : State) : Outcome := .next s.hardReset

/-- The engine after a show reset (R50): the serial is kept. -/
def Engine.showReset (e : Engine) : Engine := ⟨.idle, none, 0, e.serial, 1, none⟩

/-- The link after a show reset (R194): all 12 flags are cleared, everything else is kept. So is a command frame that has
arrived in part, of which R194 says nothing: the model's choice (log 44). -/
def Link.showResetDone (l : Link) : Link := { l with flags := 0, showReset := .idle }

/-- A live round closed ABANDONED by a show reset: steps 1 to 5 of the close, with no walk (R20, R50). -/
def State.abandonForReset (s : State) : State := if s.live then s.closeRound .abandoned none else s

/-- The units' show resets, in the order in which R194 lists them. -/
def State.unitsReset (s : State) : State :=
  (((((((s.setList s.list.showReset).setEngine s.engine.showReset).setConsoles s.consoles.showReset).setIntake
      s.intake.showReset).setArbiter Arbiter.reset).setAnswers Collector.reset).setStandings
      s.standings.cleared).setBoard s.board.showReset

/-- The show reset, one operation (R194). -/
def State.showReset (s : State) : State :=
  let t := s.abandonForReset.unitsReset
  t.setLink t.link.showResetDone

/-- SHOW_RESET_EXECUTE (R194): after the last byte of the SHOW RESET reply. -/
def execShowResetExecute (s : State) : Outcome := .next (if s.link.showReset = .due then s.showReset else s)

end Sys2Proof.Machine
end

