-- ==== Sys2Proof/Machine/Roster.lean ====
section
/-! DEFINITION. The roster and the guest map (R85 to R89): ENROLL, WITHDRAW, MOVE, CLEAR ROSTER, SET GUEST MAP, READ
GUEST MAP, READ HANDSET and READ ROSTER. -/

namespace Sys2Proof.Machine

/-- The lowest free roster position (R86). -/
def Intake.freePosition (x : Intake) : Option Nat := x.roster.findIdx? fun r => r = none

/-- The entry that ENROLL makes (R86). -/
def RosterEntry.enrolled (h : BitVec 16) (team seat : Nat) : RosterEntry := ⟨h, team, seat, none, none, false, false⟩

/-- ENROLL (R86). -/
def carryEnroll (h : BitVec 16) (team seat : Byte) (s : State) : Carried :=
  if s.live then s.refuse .wrongState
  else if !handsetOk h || 24 < team.toNat then s.refuse .outOfRange
  else if (s.intake.positionOf h).isSome then s.refuse .duplicate
  else
    match s.intake.freePosition with
    | some p =>
      (s.setIntake (s.intake.setRosterAt p (some (RosterEntry.enrolled h team.toNat seat.toNat)))).done (form1 p)
    | none => s.refuse .tableFull

/-- R86. -/
def execEnroll (h : BitVec 16) (team seat : Byte) (s : State) : Outcome :=
  desk (.enroll h team seat) (carryEnroll h team seat) s

/-- WITHDRAW (R87). -/
def carryWithdraw (h : BitVec 16) (s : State) : Carried :=
  if s.live then s.refuse .wrongState
  else if !handsetOk h then s.refuse .outOfRange
  else
    match s.intake.positionOf h with
    | some p => (s.setIntake (s.intake.setRosterAt p none)).done []
    | none => s.refuse .notFound

/-- R87. -/
def execWithdraw (h : BitVec 16) (s : State) : Outcome := desk (.withdraw h) (carryWithdraw h) s

/-- MOVE (R87): position, last sequence, last serial and marks are kept. -/
def carryMove (h : BitVec 16) (team seat : Byte) (s : State) : Carried :=
  if s.live then s.refuse .wrongState
  else if !handsetOk h || 24 < team.toNat then s.refuse .outOfRange
  else
    match s.intake.rosterEntryOf h with
    | some (p, r) =>
      (s.setIntake (s.intake.setRosterAt p (some { r with team := team.toNat, seat := seat.toNat }))).done []
    | none => s.refuse .notFound

/-- R87. -/
def execMove (h : BitVec 16) (team seat : Byte) (s : State) : Outcome :=
  desk (.move h team seat) (carryMove h team seat) s

/-- CLEAR ROSTER (R87). -/
def carryClearRoster (s : State) : Carried :=
  if s.live then s.refuse .wrongState
  else (s.setIntake { s.intake with roster := s.intake.roster.map fun _ => none }).done []

/-- R87. -/
def execClearRoster (s : State) : Outcome := desk .clearRoster carryClearRoster s

/-- SET GUEST MAP (R88). -/
def carrySetGuestMap (positions : BitVec 64) (s : State) : Carried :=
  if s.live then s.refuse .wrongState else (s.setIntake { s.intake with guestMap := positions }).done []

/-- R88. -/
def execSetGuestMap (positions : BitVec 64) (s : State) : Outcome :=
  desk (.setGuestMap positions) (carrySetGuestMap positions) s

/-- READ GUEST MAP (R88). -/
def carryReadGuestMap (s : State) : Carried := s.done (bytesOf 8 s.intake.guestMap.toNat)

/-- R88. -/
def execReadGuestMap (s : State) : Outcome := desk .readGuestMap carryReadGuestMap s

/-- A roster entry as READ HANDSET and READ ROSTER return it (R89, log 17). -/
def RosterEntry.view (r : RosterEntry) (p : Nat) : List Byte :=
  form1 p ++ form1 r.team ++ form1 r.seat ++ form1? r.lastSequence ++ form1? (r.lastSerial.map BitVec.toNat)
    ++ formBool r.present ++ formBool (!r.batteryLow)

/-- A free position as READ ROSTER reports it: the position, then every value in its absent form (R89, log 17). -/
def freeView (p : Nat) : List Byte := form1 p ++ List.replicate 6 0xFF

/-- READ HANDSET (R89). -/
def carryReadHandset (h : BitVec 16) (s : State) : Carried :=
  match s.intake.rosterEntryOf h with
  | some (p, r) => s.done (r.view p)
  | none => s.refuse .notFound

/-- R89. -/
def execReadHandset (h : BitVec 16) (s : State) : Outcome := desk (.readHandset h) (carryReadHandset h) s

/-- READ ROSTER (R89). -/
def carryReadRoster (position : Byte) (s : State) : Carried :=
  if 191 < position.toNat then s.refuse .outOfRange
  else
    match s.intake.rosterAt position.toNat with
    | some r => s.done (r.view position.toNat)
    | none => s.done (freeView position.toNat)

/-- R89. -/
def execReadRoster (position : Byte) (s : State) : Outcome := desk (.readRoster position) (carryReadRoster position) s

end Sys2Proof.Machine
end

