-- ==== Sys2Proof/Machine/Time.lean ====
section
/-! DEFINITION. The 1 ms tick (R25): the round clock, the timers, the samples of the console lines, the blinks and the
gap measures. What an elapsed time makes due is a row of its own; TICK only counts (log 4, log 5). -/

namespace Sys2Proof.Machine

/-- A live round that is not PAUSED runs the round clock (R21, R25). -/
def EngineState.clockRuns (x : EngineState) : Bool := x.live && x ≠ .paused

/-- The context's timers after one ms (R31, R32, R35): the one that the engine state lets count goes down by 1. -/
def State.timersTicked (s : State) (c : Context) : Context :=
  match s.engine.state with
  | .reading => { c with readingLeft := c.readingLeft - 1 }
  | .opened => { c with roundLeft := c.roundLeft.map (· - 1) }
  | .settling => if c.timeCalled then c else { c with roundLeft := c.roundLeft.map (· - 1) }
  | .floor => { c with answerLeft := c.answerLeft.map (· - 1) }
  | .idle | .cued | .tallying | .awaitKey | .paused => c

/-- The engine after one ms (R25, R26, R31, R32, R35). -/
def State.engineTicked (s : State) : Engine :=
  { s.engine with
    clock := if s.engine.state.clockRuns then bump clockMax s.engine.clock else s.engine.clock
    round := s.engine.round.map s.timersTicked }

/-- The four values that a run beginning at this moment records (R52). -/
def State.runNow (s : State) : RunStart := ⟨s.engine.clock, s.live, s.engine.serial, s.pausedMark⟩

/-- The console lines after one ms: every enabled line sampled, the blink timer counted (R52, R65). -/
def ConsoleUnit.ticked (x : ConsoleUnit) (levels : BitVec 24) (now : RunStart) : ConsoleUnit :=
  { x with
    records := x.records.mapIdx fun i r => r.sampled (levels.getLsbD i) now
    blinkLeft := x.blinkLeft - 1 }

/-- The pad port's gap measure after one ms (R69, log 6). -/
def Intake.ticked (x : Intake) : Intake :=
  if x.port.isSome then { x with portGap := bump (padGapLimit + 1) x.portGap } else x

/-- A poll's wait after one ms (R170, log 7). -/
def Chain.ticked : Chain → Chain
  | .free => .free
  | .refresh a image void => .refresh a image void
  | .poll a waited void => .poll a (bump pollWait waited) void

/-- The Board Driver after one ms (R172, R174). -/
def Board.ticked (b : Board) : Board :=
  { b with
    panels := b.panels.map fun r => { r with blinkLeft := r.blinkLeft - 1 }
    revealLeft := if b.state = .revealing then b.revealLeft - 1 else b.revealLeft
    chain := b.chain.ticked }

/-- The Control Link after one ms (R183, R188, log 6). -/
def Link.ticked (l : Link) : Link :=
  { l with
    gap := if l.receiving.isSome then bump (linkGapLimit + 1) l.gap else l.gap
    hold := l.hold.map (· - 1) }

/-- One tick of the 1 ms tick: the clock advances first, then the lines are sampled (log 4). -/
def State.ticked (s : State) (levels : BitVec 24) : State :=
  let t := s.setEngine s.engineTicked
  (((t.setConsoles (t.consoles.ticked levels t.runNow)).setIntake t.intake.ticked).setBoard t.board.ticked).setLink
    t.link.ticked

/-- TICK (R25). -/
def execTick (levels : BitVec 24) (s : State) : Outcome := .next (s.ticked levels)

end Sys2Proof.Machine
end

