-- ==== Sys2Proof/Machine/Dispatch.lean ====
section
/-! DEFINITION. One arm per constructor of `Instr`, in the order of spec/opcode_table.json. -/

namespace Sys2Proof.Machine

/-- The effect of a step on everything but the queue of waiting steps. -/
def exec (i : Instr) (s : State) : Host.Outcome State Fault Refusal :=
  match i with
  | .hardReset => Sys2Proof.Machine.execHardReset s
  | .modeByte byte => Sys2Proof.Machine.execModeByte byte s
  | .commandFrameComplete frame => Sys2Proof.Machine.execCommandFrameComplete frame s
  | .linkFrameAbandoned length => Sys2Proof.Machine.execLinkFrameAbandoned length s
  | .linkFrameGap => Sys2Proof.Machine.execLinkFrameGap s
  | .unknownKind frame => Sys2Proof.Machine.execUnknownKind frame s
  | .identify => Sys2Proof.Machine.execIdentify s
  | .setRate rate => Sys2Proof.Machine.execSetRate rate s
  | .statusGet => Sys2Proof.Machine.execStatusGet s
  | .setNoticeMask classes => Sys2Proof.Machine.execSetNoticeMask classes s
  | .holdReports time => Sys2Proof.Machine.execHoldReports time s
  | .fetchReports count => Sys2Proof.Machine.execFetchReports count s
  | .showReset => Sys2Proof.Machine.execShowReset s
  | .showResetExecute => Sys2Proof.Machine.execShowResetExecute s
  | .writeRound slot descriptor => Sys2Proof.Machine.execWriteRound slot descriptor s
  | .readRound slot => Sys2Proof.Machine.execReadRound slot s
  | .handOver slot => Sys2Proof.Machine.execHandOver slot s
  | .takeBack slot => Sys2Proof.Machine.execTakeBack slot s
  | .setPointer slot => Sys2Proof.Machine.execSetPointer slot s
  | .go => Sys2Proof.Machine.execGo s
  | .startRound => Sys2Proof.Machine.execStartRound s
  | .openRound => Sys2Proof.Machine.execOpenRound s
  | .closeRound => Sys2Proof.Machine.execCloseRound s
  | .judge v => Sys2Proof.Machine.execJudge v s
  | .revealKey option => Sys2Proof.Machine.execRevealKey option s
  | .pause => Sys2Proof.Machine.execPause s
  | .resume => Sys2Proof.Machine.execResume s
  | .abandon => Sys2Proof.Machine.execAbandon s
  | .readingTimerExpiry => Sys2Proof.Machine.execReadingTimerExpiry s
  | .roundTimerSecond => Sys2Proof.Machine.execRoundTimerSecond s
  | .roundTimerExpiry => Sys2Proof.Machine.execRoundTimerExpiry s
  | .answerTimerBlink => Sys2Proof.Machine.execAnswerTimerBlink s
  | .answerTimerExpiry => Sys2Proof.Machine.execAnswerTimerExpiry s
  | .roundClockHold => Sys2Proof.Machine.execRoundClockHold s
  | .settleDeadlineReached => Sys2Proof.Machine.execSettleDeadlineReached s
  | .lineRunStart line => Sys2Proof.Machine.execLineRunStart line s
  | .lineReady line => Sys2Proof.Machine.execLineReady line s
  | .linePressAccepted line => Sys2Proof.Machine.execLinePressAccepted line s
  | .lineReleaseAccepted line => Sys2Proof.Machine.execLineReleaseAccepted line s
  | .stuck line => Sys2Proof.Machine.execStuck line s
  | .cleared line => Sys2Proof.Machine.execCleared line s
  | .lampBlinkTimerExpiry => Sys2Proof.Machine.execLampBlinkTimerExpiry s
  | .setLine line enabled polarity filter => Sys2Proof.Machine.execSetLine line enabled polarity filter s
  | .readLine line => Sys2Proof.Machine.execReadLine line s
  | .padFrameArrival frame => Sys2Proof.Machine.execPadFrameArrival frame s
  | .padRunt => Sys2Proof.Machine.execPadRunt s
  | .takeComplete => Sys2Proof.Machine.execTakeComplete s
  | .setReceiver receiver enabled offset => Sys2Proof.Machine.execSetReceiver receiver enabled offset s
  | .readReceiver receiver => Sys2Proof.Machine.execReadReceiver receiver s
  | .readIntake => Sys2Proof.Machine.execReadIntake s
  | .enroll handset team seat => Sys2Proof.Machine.execEnroll handset team seat s
  | .withdraw handset => Sys2Proof.Machine.execWithdraw handset s
  | .move handset team seat => Sys2Proof.Machine.execMove handset team seat s
  | .clearRoster => Sys2Proof.Machine.execClearRoster s
  | .setGuestMap positions => Sys2Proof.Machine.execSetGuestMap positions s
  | .readGuestMap => Sys2Proof.Machine.execReadGuestMap s
  | .readHandset handset => Sys2Proof.Machine.execReadHandset handset s
  | .readRoster position => Sys2Proof.Machine.execReadRoster position s
  | .readAnswers view argument => Sys2Proof.Machine.execReadAnswers view argument s
  | .readFloor => Sys2Proof.Machine.execReadFloor s
  | .setTeam team nameLength name playing house => Sys2Proof.Machine.execSetTeam team nameLength name playing house s
  | .adjustScore team delta => Sys2Proof.Machine.execAdjustScore team delta s
  | .setScore team target => Sys2Proof.Machine.execSetScore team target s
  | .setTieDisplay option => Sys2Proof.Machine.execSetTieDisplay option s
  | .freeze => Sys2Proof.Machine.execFreeze s
  | .unfreeze => Sys2Proof.Machine.execUnfreeze s
  | .readStandings view argument => Sys2Proof.Machine.execReadStandings view argument s
  | .setHouse house nameLength name shown total games => Sys2Proof.Machine.execSetHouse house nameLength name shown total games s
  | .setPlacePoints points => Sys2Proof.Machine.execSetPlacePoints points s
  | .commitGame method => Sys2Proof.Machine.execCommitGame method s
  | .readHouses view => Sys2Proof.Machine.execReadHouses view s
  | .holdBoards => Sys2Proof.Machine.execHoldBoards s
  | .revealBoards interval => Sys2Proof.Machine.execRevealBoards interval s
  | .revealStep => Sys2Proof.Machine.execRevealStep s
  | .releaseBoards => Sys2Proof.Machine.execReleaseBoards s
  | .checkPanels => Sys2Proof.Machine.execCheckPanels s
  | .setLeaderboardMode mode => Sys2Proof.Machine.execSetLeaderboardMode mode s
  | .readBoard view argument => Sys2Proof.Machine.execReadBoard view argument s
  | .winnerBlinkEnd team => Sys2Proof.Machine.execWinnerBlinkEnd team s
  | .refreshSendBegin => Sys2Proof.Machine.execRefreshSendBegin s
  | .refreshSendComplete => Sys2Proof.Machine.execRefreshSendComplete s
  | .pollBegin => Sys2Proof.Machine.execPollBegin s
  | .panelPollReply head status check => Sys2Proof.Machine.execPanelPollReply head status check s
  | .panelPollTimeout => Sys2Proof.Machine.execPanelPollTimeout s
  | .replySendBegin => Sys2Proof.Machine.execReplySendBegin s
  | .replySent => Sys2Proof.Machine.execReplySent s
  | .reportSendBegin => Sys2Proof.Machine.execReportSendBegin s
  | .reportSent => Sys2Proof.Machine.execReportSent s
  | .reportHoldExpiry => Sys2Proof.Machine.execReportHoldExpiry s
  | .tick levels => Sys2Proof.Machine.execTick levels s
  | .linkByteReceived byte => Sys2Proof.Machine.execLinkByteReceived byte s
  | .padByteReceived byte => Sys2Proof.Machine.execPadByteReceived byte s

end Sys2Proof.Machine
end

