-- ==== Sys2Proof/Safety.lean ====
section
/-! DEFINITION. What the part keeps true of its state at every step: the bounds of its stores and counts, and how the
list position, the engine, the floor, the claim queue, the roster and the boards fit together; and the terms in which the
statements give replies and effects. -/

namespace Sys2Proof.Machine

/-- Carrying out `i` answers a next state: the state `t`, with the reply made that names the command's kind (R184,
R185). -/
def Replies (i : Instr) (s t : State) (code : ReplyCode) (data : List Byte) : Prop :=
  exec i s = .next (t.reply ⟨i.kindByte.getD 0, code, data⟩)

/-! ### What the replies to reads carry (R196) -/

/-- A quantity of n bytes, high byte first, or absent with every bit set. -/
def sentOr (n : Nat) (x : Option Nat) : List Byte := (x.map (bytesOf n)).getD (List.replicate n 0xFF)

/-- A source of a claim: 0xFF and the line number, or the receiver and the handset id. -/
def sentSource : Source → List Byte
  | .console line => 0xFF :: bytesOf 2 line
  | .handset id receiver => BitVec.ofNat 8 receiver :: bytesOf 2 id.toNat

/-- YES or NO, set or clear. -/
def sentMark (b : Bool) : Byte := if b then 1 else 0

/-- Ten characters of a name, unused bytes 0x20. -/
def sentCharacters (name : List Byte) : List Byte := (name ++ List.replicate 10 0x20).take 10

/-- A score in two's complement, or blank. -/
def sentScore (x : Option Int) : List Byte :=
  (x.map fun n => bytesOf 2 (BitVec.ofInt 16 n).toNat).getD [0x80, 0x00]

/-- A total in two's complement. -/
def sentTotal (x : Int) : List Byte := bytesOf 3 (BitVec.ofInt 24 x).toNat

/-- The two bits of a team in the lock set of READ FLOOR. -/
def lockBits : Option LockReason → Nat
  | none => 0
  | some .falseStart => 1
  | some .wrong => 2
  | some .timeout => 3

/-- The settle deadline of R100; there is none while a team holds the floor or no BUZZ round is live (log 14). -/
def settleDeadline (s : State) : Option Nat :=
  if s.live = true ∧ s.context.kind = .buzz ∧ s.context.holder = none then
    match s.arbiter.queue with
    | q :: _ => some (q.stamp + s.setup.settleWindow.toNat)
    | [] => if s.context.timeCalled then s.context.expiryStamp.map (· + s.setup.settleWindow.toNat) else none
  else none

/-- An entry of the claim queue in READ FLOOR (R112), with its tie rank (R97). -/
def floorEntry (s : State) (q : QueuedClaim) : List Byte :=
  [BitVec.ofNat 8 q.team] ++ bytesOf 3 q.stamp ++ sentSource q.source
    ++ [BitVec.ofNat 8 q.number, BitVec.ofNat 8 ((q.team + 24 - s.engine.tieStart) % 24)]

/-- The reply of READ FLOOR (R112): a source is absent as three bytes 0xFF (log 19), and in the lock set team 1 has the first
two bits. -/
def floorReply (s : State) : List Byte :=
  let c := s.context
  [s.engine.serial] ++ sentOr 1 (c.holder.map Holder.team) ++ sentOr 3 (c.holder.map Holder.stamp)
    ++ (c.holder.map fun h => sentSource h.source).getD [0xFF, 0xFF, 0xFF] ++ sentOr 2 c.answerLeft
    ++ [BitVec.ofNat 8 s.arbiter.queue.length]
    ++ (s.arbiter.queue.map (floorEntry s)).flatten ++ sentOr 3 (settleDeadline s)
    ++ bytesOf 6 ((List.range 24).foldl (fun n i => n * 4 + lockBits (c.lockOf (i + 1))) 0) ++ sentOr 3 s.arbiter.reopen
    ++ [BitVec.ofNat 8 c.claimsAdmitted, BitVec.ofNat 8 c.grantCount, BitVec.ofNat 8 c.wrongCount]

/-- The options and the key of the round that the answer table belongs to, as READ ANSWERS gives them (R131); what a kind does
not use is absent (log 18). -/
def answersAbout (x : Collector) : List Byte :=
  match x.about with
  | none => [0xFF, 0xFF]
  | some a =>
    [if a.kind = .choice ∨ a.kind = .poll then BitVec.ofNat 8 a.options else 0xFF,
      if a.kind = .choice then ((x.tally.bind Tally.revealed).map OptKey.code).getD a.key.code else 0xFF]

/-- The option counts and the percentages in READ ANSWERS (R131); the lists of a tally that does not stand are empty with a
count of 0 (log 18). -/
def answersCounted (x : Collector) : List Byte :=
  match x.tally with
  | none => [0, 0]
  | some y =>
    if x.tallyState = .counted ∨ x.tallyState = .keyed then
      [BitVec.ofNat 8 y.counts.length] ++ (y.counts.map (bytesOf 2)).flatten
        ++ [BitVec.ofNat 8 y.percents.length] ++ y.percents.map (BitVec.ofNat 8)
    else [0, 0]

/-- The SUMMARY view of READ ANSWERS (R131). -/
def answersSummary (x : Collector) : List Byte :=
  let n := x.counts
  sentOr 1 (x.tableSerial.map BitVec.toNat) ++ [(x.about.map fun a => a.kind.code).getD 0xFF]
    ++ answersAbout x ++ [x.tallyState.code] ++ bytesOf 2 (x.table.filterMap id).length
    ++ [BitVec.ofNat 8 (((x.table.drop 192).filterMap id).length), sentMark x.fullMark]
    ++ ([n.recorded, n.changed, n.ignored, n.paused, n.early, n.late, n.audienceFull].map (bytesOf 2)).flatten
    ++ answersCounted x

/-- The entry at an occupied position in READ ANSWERS (R131). -/
def answersEntry (x : Collector) (p : Nat) : List Byte :=
  match x.table.getD p none with
  | none => []
  | some e =>
    [BitVec.ofNat 8 p] ++ bytesOf 2 e.handset.toNat ++ sentOr 1 e.team ++ [e.option.code] ++ bytesOf 3 e.stamp
      ++ [BitVec.ofNat 8 e.changes]

/-- The ENTRIES view of READ ANSWERS from a start position (R131); END is 0xFF (log 18). -/
def answersEntries (x : Collector) (start : Nat) : List Byte :=
  let ps := (List.range x.table.length).filter fun p => start ≤ p && (x.table.getD p none).isSome
  [BitVec.ofNat 8 (min 5 ps.length)] ++ ((ps.take 5).map (answersEntry x)).flatten
    ++ [if ps.length ≤ 5 then 0xFF else BitVec.ofNat 8 ((ps.take 5).getLastD 0 + 1)]

/-- One team in the TEAMS view of READ ANSWERS (R131, R196). -/
def answersTeam (x : Collector) (t : Nat) : List Byte :=
  [sentMark (x.about.any fun a => a.kind = .choice && inSet a.counted t)]
    ++ sentOr 1 (if x.tallyState = .counted ∨ x.tallyState = .keyed then
      x.tally.bind fun y => y.members.getD (t - 1) none else none)
    ++ sentOr 1 (if x.tallyState = .keyed then x.tally.bind fun y => y.right.getD (t - 1) none else none)
    ++ sentOr 2 (if x.tallyState = .keyed then x.tally.bind fun y => y.shares.getD (t - 1) none else none)

/-- The TEAM view of READ STANDINGS (R132, R151). -/
def standingsTeam (x : Standings) (t : Nat) : List Byte :=
  let r := x.teamAt t
  [sentMark r.playing, BitVec.ofNat 8 r.name.length] ++ sentCharacters r.name ++ [BitVec.ofNat 8 r.house]
    ++ sentScore (some r.score) ++ [BitVec.ofNat 8 r.streak, BitVec.ofNat 8 r.correct, BitVec.ofNat 8 r.wrong]
    ++ bytesOf 3 r.sequence ++ [sentMark r.clamped] ++ sentOr 1 (x.position t) ++ sentOr 1 (x.rank t)

/-- One position in the ORDER view of READ STANDINGS (R151); an empty one is sent as every value absent (log 38). -/
def standingsPlace (x : Standings) (p : Nat) : List Byte :=
  match teamNumbers.find? fun t => x.position t = some p with
  | some t =>
    [BitVec.ofNat 8 t] ++ sentScore (some (x.teamAt t).score) ++ sentOr 1 (x.rank t)
      ++ [sentMark (x.teamAt t).clamped]
  | none => [0xFF, 0x80, 0x00, 0xFF, 0xFF]

/-- The playing teams of a house (R155, R161). -/
def housePlayers (x : Standings) (h : Nat) : List Nat :=
  teamNumbers.filter fun t => (x.teamAt t).playing && (x.teamAt t).house = h

/-- One house in the RECORDS view of READ HOUSES (R163). -/
def houseRecord (x : Standings) (h : Nat) : List Byte :=
  let r := x.houseAt h
  [BitVec.ofNat 8 r.name.length] ++ sentCharacters r.name ++ [sentMark r.shown] ++ sentTotal r.total
    ++ [BitVec.ofNat 8 r.games] ++ sentOr 1 (x.place h) ++ [BitVec.ofNat 8 (housePlayers x h).length]

/-- One house in the PREVIEW view of READ HOUSES (R161, R163). -/
def housePreview (x : Standings) (h : Nat) : List Byte :=
  sentTotal ((housePlayers x h).map (x.contribution .score)).sum
    ++ sentTotal ((housePlayers x h).map (x.contribution .places)).sum

/-- A roster entry in READ HANDSET and READ ROSTER (R89, R196): position, team, seat, last sequence, last serial, present mark
and battery mark, which is OK 1 or LOW 0 (log 17). -/
def rosterReply (p : Nat) (r : RosterEntry) : List Byte :=
  [BitVec.ofNat 8 p, BitVec.ofNat 8 r.team, BitVec.ofNat 8 r.seat] ++ sentOr 1 r.lastSequence
    ++ sentOr 1 (r.lastSerial.map BitVec.toNat) ++ [sentMark r.present, if r.batteryLow then 0 else 1]

/-- A line of a leaderboard image, or blank (R166, R196): its name has ten characters and no length (log 33). -/
def sentLine : Option BoardLine → List Byte
  | some x => [BitVec.ofNat 8 x.rank] ++ sentCharacters x.name ++ sentTotal x.total
  | none => 0xFF :: List.replicate 10 0x20 ++ [0x80, 0x00, 0x00]

/-- An image in READ BOARD (R166, R178, log 33). -/
def sentImage : Image → List Byte
  | .team m => sentScore m.score ++ sentOr 1 m.rank ++ [sentMark m.blink]
  | .leader m =>
    [m.mode.code] ++ (m.lines.map sentLine).flatten ++ sentOr 2 m.countdown ++ sentOr 1 m.slot

/-- An absent image of a panel's kind in READ BOARD: every value absent or blank (log 33). -/
def sentAbsentImage (a : Nat) : List Byte :=
  if a = 0 then 0xFF :: (List.replicate 8 (sentLine none)).flatten ++ [0xFF, 0xFF, 0xFF]
  else [0x80, 0x00, 0xFF, 0xFF]

/-- The SUMMARY view of READ BOARD (R178); cursor and interval are absent out of REVEALING (log 33). -/
def boardSummaryReply (s : State) : List Byte :=
  let b := s.board
  [b.state.code, b.mode.code]
    ++ (if b.state = .revealing then [BitVec.ofNat 8 b.cursor, BitVec.ofNat 8 (b.interval / 1000)] else [0xFF, 0xFF])
    ++ [sentMark b.check.isSome] ++ sentOr 1 (b.check.map PanelCheck.next)
    ++ [BitVec.ofNat 8 b.pointer, BitVec.ofNat 8 ((List.range 25).countP s.dirty)]
    ++ (List.range 25).map fun a => (b.panelAt a).presence.code

/-- The PANEL view of READ BOARD (R178): at address 0 the eight line marks, and the blink remaining absent. -/
def boardPanelReply (s : State) (a : Nat) : List Byte :=
  let r := s.board.panelAt a
  [r.presence.code, sentMark (s.dirty a)] ++ (if a = 0 then s.board.lineHeld.map sentMark else [sentMark r.held])
    ++ sentImage (s.target a)
    ++ (r.shown.map sentImage).getD (sentAbsentImage a)
    ++ sentOr 2 (if a = 0 then none else some r.blinkLeft)

/-! ### What is told (R48, R111, R125, R128, R152) -/

/-- Between `s` and `t` these reports are told, in this order, and the link does nothing else (R189). -/
def Tells (s t : State) (told : List Report) : Prop := t.link = told.foldl Link.note s.link

/-- The ROUND CLOSED report of a close of the round in `s` (R47, R48): claims left is the length of the claim queue as the
close begins, and a CHOICE or POLL round has no claims and no wrong answers (R15). -/
def closeReport (s : State) (o : RoundOutcome) (winner : Option Nat) : Report :=
  let c := s.context
  ⟨some s.engine.serial,
    .roundClosed c.slot c.kind o winner (if c.kind = .buzz then c.claimsAdmitted else 0) s.arbiter.queue.length
      c.grantCount (if c.kind = .buzz then c.wrongCount else 0) (s.engine.clock / 100)⟩

/-- The LIST report of the walk after a close of the round in `s`, whose slot is EDIT-owned by then (R14 to R16). -/
def walkReport (s : State) : Report :=
  let k := s.context.slot
  match (s.slotAt k).setup.link with
  | none => ⟨none, .listIdle k .noLink .afterClose⟩
  | some j =>
    if j ≠ k ∧ (s.slotAt j).owner = .engine then ⟨none, .listCued j⟩ else ⟨none, .listIdle k .notHandedOver .afterClose⟩

/-- The SCORE CHANGED report of a request, `x` being the unit before it (R138, R152): the applied delta is the change that the
clamp has left. -/
def scoreReport (serial : Option (BitVec 8)) (q : ScoreRequest) (x : Standings) : Report :=
  let old := (x.teamAt q.team).score
  let wanted := match q.move with | .by d => old + d | .target z => z
  let y := x.apply q
  let r := y.teamAt q.team
  ⟨serial,
    .scoreChanged q.team q.source q.verdict q.award (max (-999) (min 9999 wanted) - old) r.score r.clamped r.streak
      r.sequence (y.position q.team) (y.rank q.team)⟩

/-- The SCORE CHANGED reports of requests dealt with one after another (R126, R152). -/
def scoreReports (serial : Option (BitVec 8)) : Standings → List ScoreRequest → List Report
  | _, [] => []
  | x, q :: qs => scoreReport serial q x :: scoreReports serial (x.apply q) qs

/-- The TALLY COUNTED report of the tally that completes in `s` (R125): the key, and the number of teams with m_t of 1
or more, for a CHOICE round only. -/
def countedReport (s : State) : Report :=
  let y := s.countNow
  let choice := s.context.kind = .choice
  ⟨some s.engine.serial,
    .tallyCounted s.context.slot s.context.kind y.counts y.total y.percents (if choice then some s.setup.key else none)
      (if choice then some ((List.range 24).countP fun i => 0 < (y.members.getD i none).getD 0) else none)
      s.answers.counts⟩

/-- The TALLY KEYED report for the key `k` revealed in `s`, which makes the tally `z` (R128). -/
def keyedReport (s : State) (k : OptKey) (z : Tally) : Report :=
  ⟨some s.engine.serial,
    .tallyKeyed s.context.slot k ((s.answers.table.filterMap id).countP fun e => e.option = k)
      ((List.range 24).countP fun i => 0 < (z.right.getD i none).getD 0)⟩

/-! ### Effects named by several statements -/

/-- How many shown houses stand before house `h` in the order of R159: by total, highest first, then by house number. -/
def housesAhead (x : Standings) (h : Nat) : Nat :=
  (List.range 6).countP fun i => (x.houseAt (i + 1)).shown &&
    ((x.houseAt h).total < (x.houseAt (i + 1)).total ||
      ((x.houseAt (i + 1)).total = (x.houseAt h).total && i + 1 < h))

/-- The live line `k` of a leaderboard mode (R159, R166): the team at position `k`, or the house that is the k-th of the
order, with its shown rank or place. -/
def liveLine (x : Standings) (m : BoardMode) (k : Nat) : Option BoardLine :=
  match m with
  | .teams =>
    (((List.range 24).map (· + 1)).find? fun t => x.position t = some k).map fun t =>
      ⟨(x.rank t).getD 0, (x.teamAt t).name, (x.teamAt t).score⟩
  | .houses =>
    (((List.range 6).map (· + 1)).find? fun h => (x.houseAt h).shown && 1 + housesAhead x h = k).map fun h =>
      ⟨(x.place h).getD 0, (x.houseAt h).name, (x.houseAt h).total⟩

/-- A round in `s` has closed with an outcome and a winner, and left `t` (R15, R16, R23, R47): what becomes of the list, the
engine, the arbiter and the lamps. The field settleDue is the model's (log 45). -/
def Closes (s t : State) (o : RoundOutcome) (winner : Option Nat) : Prop :=
  let k := s.context.slot
  (∀ j, t.slotAt j = if j = k then ⟨(s.slotAt k).setup, .edit, s.resultOf o winner⟩ else s.slotAt j) ∧
    ((s.slotAt k).setup.link = none →
      t.engine.state = .idle ∧ t.list.pointer = k ∧ t.list.park = some (.noLink, .afterClose)) ∧
    (∀ j, (s.slotAt k).setup.link = some j → j ≠ k → (s.slotAt j).owner = .engine →
      t.engine.state = .cued ∧ t.list.pointer = j ∧ t.list.park = none) ∧
    (∀ j, (s.slotAt k).setup.link = some j → j = k ∨ (s.slotAt j).owner = .edit →
      t.engine.state = .idle ∧ t.list.pointer = k ∧ t.list.park = some (.notHandedOver, .afterClose)) ∧
    t.engine.remembered = none ∧ t.engine.clock = s.engine.clock ∧ t.engine.serial = s.engine.serial ∧
    t.engine.tieStart = s.engine.tieStart ∧
    t.context =
      { s.context with
        holder := none, answerLeft := none, closeMark := none, locks := List.replicate 24 none, settleDue := false } ∧
    t.arbiter = ⟨[], none⟩ ∧
    t.consoles =
      { s.consoles with floorLamps := List.replicate 24 .off, lockLamps := List.replicate 24 .off } ∧
    t.intake = s.intake ∧ t.free = s.free ∧ t.pending = s.pending

/-- The entry to OPEN from READING, `c` being the round context before it (R28, R30): the state `t`, in which only the
engine and the events told differ. -/
def EntersOpen (s t : State) (c : Context) : Prop :=
  let limit := s.setup.timeLimitMs
  let tie := if c.kind = .buzz then nextTieStart s.engine.tieStart else s.engine.tieStart
  t = ((s.setEngine
        { s.engine with
          state := .opened
          tieStart := tie
          round := some
            { c with openTime := some s.engine.clock, roundLeft := some limit, lastSecond := some ((limit + 999) / 1000) } }).raise
      (.timerSecond ((limit + 999) / 1000))).raise
    (.roundOpened c.slot s.engine.clock (if c.kind = .buzz then some tie else none))

/-- The entry to TALLYING (R40): the state `t`, in which only the engine and the event told differ. -/
def EntersTallying (s t : State) : Prop :=
  t = (s.setEngine
      { s.engine with
        state := .tallying, round := s.engine.round.map fun c => { c with closeMark := some s.engine.clock } }).raise
    (.roundTallying s.engine.clock)

/-- The ROUND TALLYING report of an entry to TALLYING in `s` (R40, R48). -/
def tallyingReport (s : State) : Report := ⟨some s.engine.serial, .roundTallying s.engine.clock⟩

/-- The tally of the round in `s` completes and leaves `t`; `begun` is what has been told before TALLY COUNTED, and what
follows is told after it (R40, R41, R47, R125, R126). -/
def TallyCompletes (s t : State) (begun : List Report) : Prop :=
  t.answers.table = s.answers.table ∧ t.answers.counts = s.answers.counts ∧ t.intake = s.intake ∧
    t.board = s.board ∧ t.engine.clock = s.engine.clock ∧ t.context.closeMark = none ∧
    (s.context.kind = .poll →
      t.answers.tallyState = .counted ∧ t.answers.tally = some s.countNow ∧ t.standings = s.standings ∧
        t.answers = { s.answers with tallyState := .counted, tally := some s.countNow } ∧
        (t.slotAt s.context.slot).result = s.resultOf .polled none ∧ t.live = false ∧ Closes s t .polled none ∧
        Tells s t (begun ++ [countedReport s, closeReport s .polled none, walkReport s])) ∧
    (s.context.kind = .choice → s.setup.key = .held →
      t.answers.tallyState = .counted ∧ t.answers.tally = some s.countNow ∧ t.standings = s.standings ∧
        t.list = s.list ∧ t.engine.state = .awaitKey ∧
        t.engine =
          { s.engine with
            state := .awaitKey, round := s.engine.round.map fun c => { c with closeMark := none } } ∧
        t.answers = { s.answers with tallyState := .counted, tally := some s.countNow } ∧
        t.arbiter = s.arbiter ∧ t.consoles = s.consoles ∧ t.free = s.free ∧ t.pending = s.pending ∧
        Tells s t (begun ++ [countedReport s, ⟨some s.engine.serial, .roundAwaitingKey s.context.slot⟩])) ∧
    (∀ k, s.context.kind = .choice → s.setup.key = .given k →
      ∃ z, z = s.countNow.keyed s.answers s.setup.basePoints.toNat k ∧
        t.answers.tallyState = .keyed ∧ t.answers.tally = some z ∧
        t.standings = z.requests.foldl Standings.apply s.standings ∧
        t.answers = { s.answers with tallyState := .keyed, tally := some z } ∧
        (t.slotAt s.context.slot).result = s.resultOf .scored none ∧ t.live = false ∧ Closes s t .scored none ∧
        Tells s t (begun ++ countedReport s :: scoreReports (some s.engine.serial) s.standings z.requests
          ++ [closeReport s .scored none, walkReport s]))

/-- The round of `s` closes NO WINNER before any rebound, a wrong verdict having been applied in `u` (R107). -/
def ClosesOutright (s u : State) : Prop :=
  s.setup.wrongLimit.toNat ≤ u.context.wrongCount ∨
    ∀ x, isTeamNumber x = true → s.inPlay x = true → u.context.lockOf x ≠ none

/-- The request of a WRONG or TIMEOUT verdict `v` in `s` (R106, R144). -/
def wrongVerdictRequest (s : State) (h : Holder) (v : Verdict) : ScoreRequest :=
  ⟨h.team, .verdict, some v, none, .by (-(s.setup.penalty.toNat : Int))⟩

/-- A WRONG or TIMEOUT verdict `v` on the holder `h` in `s` has been applied, up to the close or the rebound, and VERDICT
with what follows, and SCORE CHANGED where a change was asked for, have been told (R106, R111, R144). Of the round context
only the holder, the answer timer, the wrong count and the lock set change, and of the lamps only the team's. -/
def WrongVerdict (s u : State) (h : Holder) (v : Verdict) : Prop :=
  u.engine.state = .floor ∧ u.context.holder = none ∧ u.context.answerLeft = none ∧
    u.context.wrongCount = s.context.wrongCount + 1 ∧
    u.context.lockOf h.team =
      ((s.context.lockOf h.team).or (some (if v = .timeout then .timeout else .wrong))) ∧
    (∀ t, isTeamNumber t = true → t ≠ h.team → u.context.lockOf t = s.context.lockOf t) ∧
    u.context =
      { s.context with
        holder := none, answerLeft := none, wrongCount := s.context.wrongCount + 1, locks := u.context.locks } ∧
    u.engine = { s.engine with round := u.engine.round } ∧
    u.consoles.lockLamps.getD (h.team - 1) .off = .on ∧ u.consoles.floorLamps.getD (h.team - 1) .on = .off ∧
    u.consoles =
      { s.consoles with
        floorLamps := s.consoles.floorLamps.set (h.team - 1) .off
        lockLamps := s.consoles.lockLamps.set (h.team - 1) .on } ∧
    u.standings =
      (if v = .timeout ∧ s.setup.timeoutWrong = false then s.standings
      else s.standings.apply (wrongVerdictRequest s h v)) ∧
    (∃ f : Follows, (ClosesOutright s u → f = .closeNoWinner) ∧
      (¬ClosesOutright s u → f = if s.setup.rebound = .queue then .reboundQueue else .reboundReopen) ∧
      Tells s u
        (⟨some s.engine.serial, .verdictGiven h.team v h.stamp (s.context.wrongCount + 1) f⟩ ::
          if v = .timeout ∧ s.setup.timeoutWrong = false then []
          else [scoreReport (some s.engine.serial) (wrongVerdictRequest s h v) s.standings])) ∧
    u.arbiter = s.arbiter ∧ u.list = s.list ∧ u.engine.clock = s.engine.clock ∧ u.engine.serial = s.engine.serial ∧
    u.engine.tieStart = s.engine.tieStart ∧ u.intake = s.intake ∧ u.answers = s.answers ∧ u.board = s.board ∧
    u.free = s.free ∧ u.pending = s.pending

/-- The close or the rebound that follows in `t` a wrong verdict applied in `u`, the round's descriptor being that of `s`
(R107 to R109). A REOPEN rebound withdraws every claim in queue order. -/
def Rebounds (s u t : State) : Prop :=
  (ClosesOutright s u → t = u.close .noWinner) ∧
    (¬ClosesOutright s u → s.setup.rebound = .queue →
      (u.arbiter.queue ≠ [] → t = (u.setEngine { u.engine with state := .settling }).testGrant) ∧
      (u.arbiter.queue = [] → u.context.timeCalled = true → t = u.close .noWinner) ∧
      (u.arbiter.queue = [] → u.context.timeCalled = false → t = u.setEngine { u.engine with state := .opened })) ∧
    (¬ClosesOutright s u → s.setup.rebound = .reopen →
      ∃ w : State, w.arbiter = ⟨[], some s.engine.clock⟩ ∧ w.engine = u.engine ∧ w.list = u.list ∧
        w.consoles = u.consoles ∧ w.standings = u.standings ∧ w.board = u.board ∧ w.intake = u.intake ∧
        w.answers = u.answers ∧ w.free = u.free ∧ w.pending = u.pending ∧
        Tells u w (u.arbiter.queue.map fun c =>
          ⟨some u.engine.serial, .claimWithdrawn c.team c.stamp c.source c.number .reopen⟩) ∧
        (u.context.timeCalled = true → t = w.close .noWinner) ∧
        (u.context.timeCalled = false → t = w.setEngine { w.engine with state := .opened }))

/-! ### Invariants -/

/-- The bounds of the clock and of the stores (R25, R72, R184, R191). -/
def WithinCapacity (s : State) : Prop :=
  s.engine.clock ≤ clockMax ∧ s.intake.fifo.length ≤ fifoLimit ∧ s.link.queue.length ≤ queueLimit ∧
    s.link.buffer.length ≤ 2 ∧ s.link.dropped ≤ 255

/-- The ranges of a team record's numbers (R132). -/
def TeamInRange (r : TeamRecord) : Prop :=
  r.house ≤ 6 ∧ -999 ≤ r.score ∧ r.score ≤ 9999 ∧ r.streak ≤ 9 ∧ r.correct ≤ 255 ∧ r.wrong ≤ 255 ∧ r.sequence ≤ counterMax

/-- The ranges of a house record's numbers (R155). -/
def HouseInRange (r : HouseRecord) : Prop := -99999 ≤ r.total ∧ r.total ≤ 999999 ∧ r.games ≤ 255

/-- The ranges of the Standings Unit's numbers (R132, R133, R155, R158). -/
def StandingsInRange (x : Standings) : Prop :=
  (∀ r ∈ x.teams, TeamInRange r) ∧ x.counter ≤ counterMax ∧ (∀ r ∈ x.houses, HouseInRange r) ∧
    ∀ p ∈ x.placePoints, p ≤ 100

/-- The engine state, the remembered state, the round context and the floor holder fit together: a state is remembered
exactly while PAUSED, a live round has a context, a team holds the floor exactly in FLOOR or in a pause of it, and a BUZZ
round is never in TALLYING or AWAIT KEY (R21, R23, R59, R94). -/
def EngineFits (s : State) : Prop :=
  (s.engine.state = .paused ↔ s.engine.remembered.isSome) ∧ (∀ x, s.engine.remembered = some x → x.pausable) ∧
    (s.live = true → s.engine.round.isSome) ∧ (s.context.holder.isSome ↔ s.phase = .floor) ∧
    (s.phase = .tallying ∨ s.phase = .awaitKey → s.context.kind ≠ .buzz)

/-- The list position fits the engine: a park record exactly while IDLE; the pointer slot is current and ENGINE-owned
while CUED or live, and it is the round's slot while live (R6). -/
def ListFits (s : State) : Prop :=
  s.list.slots.length = 128 ∧ (s.list.park.isSome ↔ s.engine.state = .idle) ∧
    (s.engine.state ≠ .idle → (s.slotAt s.list.pointer).owner = .engine) ∧
    (s.live = true → s.context.slot = s.list.pointer)

/-- The claim queue is in its order, holds at most one claim of a team, and none of a locked team or of the floor
holder. Every claim's stamp is at or after open_time and, once time has been called, before expiry_stamp. Only a BUZZ round
in OPEN, SETTLING or FLOOR has a queue that is not empty, and only a BUZZ round is in SETTLING or FLOOR. In OPEN a claim
waits in a pause only, and then the change to SETTLING is due, which is so in a pause of a BUZZ round in OPEN only
(R21, R45, R96, R97, R103). -/
def QueueFits (s : State) : Prop :=
  s.arbiter.queue.Pairwise (fun a b => b.before s.engine.tieStart a = false) ∧
    (s.arbiter.queue.map QueuedClaim.team).Nodup ∧
    (∀ c ∈ s.arbiter.queue,
      isTeamNumber c.team ∧ s.context.lockOf c.team = none ∧ s.context.holder.map Holder.team ≠ some c.team ∧
        (∃ o, s.context.openTime = some o ∧ o ≤ c.stamp) ∧
        ∀ e, s.context.timeCalled = true → s.context.expiryStamp = some e → c.stamp < e) ∧
    (∀ h, s.context.holder = some h → isTeamNumber h.team) ∧
    (s.arbiter.queue ≠ [] → s.phase = .opened ∨ s.phase = .settling ∨ s.phase = .floor) ∧
    (s.phase = .settling ∨ s.phase = .floor ∨ s.arbiter.queue ≠ [] → s.context.kind = .buzz) ∧
    (s.phase = .opened → s.arbiter.queue ≠ [] → s.context.settleDue = true) ∧
    (s.context.settleDue = true → s.engine.remembered = some .opened ∧ s.context.kind = .buzz)

/-- No two roster positions hold the same handset (R85). -/
def RosterFits (x : Intake) : Prop :=
  x.roster.length = 192 ∧ ((x.roster.filterMap id).map RosterEntry.handset).Nodup

/-- In LIVE no held mark is set and no snapshot is held; in HELD and REVEALING there is one. The leaderboard's held marks
are its line marks, so the record at address 0 has none (R165, R167, R173). -/
def BoardFits (b : Board) : Prop :=
  (b.state = .live → (∀ r ∈ b.panels, r.held = false) ∧ ∀ x ∈ b.lineHeld, x = false) ∧
    (b.state = .live ↔ b.snapshot = none) ∧ (b.panelAt 0).held = false

/-- A report hold is in force in TWO-WIRE only, and fetched reports are sent in SINGLE-WIRE only; in LISTEN no frame is
held and nothing is sent (R181, R187, R188). -/
def LinkFits (l : Link) : Prop :=
  (l.hold.isSome → l.mode = .twoWire) ∧ (0 < l.fetchLeft → l.mode = .singleWire) ∧
    (l.mode = .listen → l.buffer = [] ∧ l.reply = none ∧ l.line = .free)

/-- The line carries a reply. -/
def TransmitLine.isReply : TransmitLine → Bool
  | .reply _ => true
  | .free | .report _ => false

/-- At most one reply waits or is on the line, and it answers the front frame of the buffer, which stays there until its
reply and the reports of its fetch have been sent. In SINGLE-WIRE a report is on the line within a fetch only (R184,
R187). -/
def RepliesFit (l : Link) : Prop :=
  (l.reply.isSome ∨ l.line.isReply ∨ 0 < l.fetchLeft → l.carriedOut = true) ∧ (l.carriedOut = true → l.buffer ≠ []) ∧
    ¬(l.reply.isSome ∧ l.line.isReply) ∧ (0 < l.fetchLeft → ∀ r, l.line = .report r → l.reply = none) ∧
    (l.mode = .singleWire → (∃ r, l.line = .report r) → 0 < l.fetchLeft)

end Sys2Proof.Machine
end

