-- ==== Sys2Proof/Certificates/Slice0/Obligations.lean ====
section
/-! DEFINITION. The statements for the provers, each over the model's own functions. Every statement about a desk command
takes the command as waiting at the front of the receive buffer (R184); how a command comes to wait there is
`DeskFramesArriveAndWait`. -/

section
open Sys2Proof Sys2Proof.Machine

/-! ### The step, the invariants and the wire forms -/

/-- A step takes the front of the queue and carries it out on the state with the queue's rest. (The queue is the
model's; log 8.) -/
def Obligations.StepRunsTheFrontStep : Prop :=
  ∀ (i : Instr) (rest : List Instr) (s : State), step (s.setPending (i :: rest)) = exec i (s.setPending rest)

/-- Every step of the table answers a next state, and leaves the queue of waiting steps as it is. (The queue is the
model's, and a hard reset keeps it; log 8, log 10.) -/
def Obligations.EveryStepAnswersAndKeepsTheQueue : Prop :=
  ∀ (i : Instr) (s : State), ∃ t, exec i s = .next t ∧ t.pending = s.pending

/-- Every invariant stated below holds in the state after a hard reset. -/
def Obligations.InvariantsHoldAtReset : Prop :=
  WithinCapacity State.reset ∧ StandingsInRange State.reset.standings ∧ EngineFits State.reset ∧ ListFits State.reset ∧
    QueueFits State.reset ∧ RosterFits State.reset.intake ∧ BoardFits State.reset.board ∧ LinkFits State.reset.link ∧
    RepliesFit State.reset.link

/-- R25, R72, R184, R191: the clock, the FIFO, the report queue, the receive buffer and the dropped count keep within
their limits at every step. -/
def Obligations.StoresKeepWithinCapacity : Prop :=
  ∀ s t : State, WithinCapacity s → step s = .next t → WithinCapacity t

/-- R132, R133, R138, R155, R158: the numbers of the standings and of the houses keep within their ranges. -/
def Obligations.StandingsStayInRange : Prop :=
  ∀ s t : State, StandingsInRange s.standings → step s = .next t → StandingsInRange t.standings

/-- R21, R23, R59, R94: the engine state, the remembered state, the context and the floor holder keep fitting. -/
def Obligations.EngineKeepsFitting : Prop := ∀ s t : State, EngineFits s → step s = .next t → EngineFits t

/-- R6: the list position keeps fitting the engine, and the current slot stays ENGINE-owned. -/
def Obligations.ListPositionKeepsFitting : Prop :=
  ∀ s t : State, EngineFits s → ListFits s → step s = .next t → ListFits t

/-- R96, R97, R103: the claim queue keeps its order, one claim a team, none of a locked team or of the holder, and none
stamped at or after expiry_stamp once time has been called. In OPEN a claim waits in a pause only, and RESUME then owes the
change to SETTLING (the field that says so is the model's; log 45). -/
def Obligations.ClaimQueueKeepsFitting : Prop :=
  ∀ s t : State, EngineFits s → QueueFits s → step s = .next t → QueueFits t

/-- R85, R165, R167, R173: the roster keeps 192 positions and never holds a handset twice; held marks and the snapshot
keep fitting the board state. (That the snapshot is given up at every return to LIVE, also by RELEASE BOARDS and by the
final reveal step, is the model's; log 27.) -/
def Obligations.RosterAndBoardsKeepFitting : Prop :=
  ∀ s t : State, step s = .next t →
    (RosterFits s.intake → RosterFits t.intake) ∧ (BoardFits s.board → BoardFits t.board)

/-- R181, R184, R187, R188: holds, fetches and LISTEN keep fitting the link mode; and at most one reply is ever waiting
or on the line, and its frame stays in the buffer until it has gone. In SINGLE-WIRE a report is on the line within a fetch
only. -/
def Obligations.LinkKeepsFitting : Prop :=
  ∀ s t : State, LinkFits s.link → step s = .next t → LinkFits t.link ∧ (RepliesFit s.link → RepliesFit t.link)

/-- R183, R185, R196: the frame of every desk command is well formed, passes the checks and reads back as that command,
every operand at every value. -/
def Obligations.CommandFramesReadBack : Prop :=
  ∀ (i : Instr) (f : LinkFrame), i.wellFormed = true → i.frame = some f →
    f.wellFormed = true ∧ f.checkGood = true ∧ f.command = some i ∧
      LinkFrame.ofReceived (f.length :: f.kind :: (f.payload ++ [f.check])) = some f

/-- R7, R8, R68, R196: a pad frame is eight bytes, and the seven after the sync byte read back as the frame. The 25 bytes
in which READ ROUND returns the set-up fields are a WRITE ROUND payload whose codes all name values, and it is stored as
the same fields. -/
def Obligations.PadFramesAndDescriptorsReadBack : Prop :=
  (∀ f : PadFrame, f.bytes.length = 8 ∧ f.bytes.head? = some 0xB4 ∧ PadFrame.ofTail f.bytes.tail = some f) ∧
  (∀ d : Descriptor, ∃ p, DescriptorPayload.ofBytes d.bytes = some p ∧ p.bytes = d.bytes ∧
    firstFailing (codeChecks p) = none ∧ storedDescriptor p = d)

/-- R185: a complete frame either is a command of the kind code table with that kind's payload length, or fails a check
and is answered with that check's code and no data, in the order check byte, kind, length. Only BAD CHECK leaves the
rate window as it is. (That the row UNKNOWN_KIND answers all three failures is the model's; log 21.) -/
def Obligations.FramesAreCommandsOrFail : Prop :=
  ∀ f : LinkFrame,
    (frameFailure f = none ↔ f.command.isSome = true) ∧
    (f.checkGood = true ↔
      (f.payload.length + 1 + f.kind.toNat + (f.payload.map BitVec.toNat).sum + f.check.toNat) % 256 = 0) ∧
    (f.checkGood = false → frameFailure f = some .badCheck) ∧
    (f.checkGood = true → payloadLength f.kind = none → frameFailure f = some .unknownKind) ∧
    (∀ n, f.checkGood = true → payloadLength f.kind = some n → f.payload.length ≠ n →
      frameFailure f = some .badLength) ∧
    ∀ (code : ReplyCode) (s : State), s.frontFrame = some f → frameFailure f = some code →
      exec (.unknownKind f) s = .next
        (s.setLink
          { s.link with
            reply := some ⟨f.kind, code, []⟩, carriedOut := true
            rateWindow := s.link.rateWindow && code = .badCheck })

/-! ### The resets -/

/-- R19: the Round List after a hard reset. -/
def Obligations.HardResetParksTheList : Prop :=
  ∀ s : State, ∃ t, exec .hardReset s = .next t ∧
    t.list.slots.length = 128 ∧
    (∀ k, t.slotAt k =
      ⟨⟨.none, none, 0, 0, 0, 0, 300, 10, 10, 10, 3, .lock, .queue, true, false, 4, .given .a, .last,
          BitVec.allOnes 24⟩, .edit, ⟨.none, none, 0, 0, 0⟩⟩) ∧
    t.engine.state = .idle ∧ t.list.pointer = 0 ∧ t.list.park = some (.notHandedOver, .atSlot) ∧
    (carryGo t).code = .done ∧ (carryGo t).state.engine.state = .idle ∧ (carryGo t).state.list.pointer = 0 ∧
    firstFailing (t.slotAt 0).setup.checks = some 1

/-- R49: the Round Engine after a hard reset. -/
def Obligations.HardResetIdlesTheEngine : Prop :=
  ∀ s : State, ∃ t, exec .hardReset s = .next t ∧
    t.engine.state = .idle ∧ t.list.pointer = 0 ∧ t.list.park = some (.notHandedOver, .atSlot) ∧
    t.engine.serial = 0 ∧ t.engine.clock = 0 ∧ t.engine.tieStart = 1 ∧ t.pausedMark = false ∧ t.engine.round = none ∧
    (∀ levels, (t.ticked levels).engine = t.engine) ∧ t.slotShown = none ∧ t.countdown = none ∧
    t.start.engine.serial = 1

/-- R90: the Handset Intake after a hard reset. -/
def Obligations.HardResetEmptiesTheIntake : Prop :=
  ∀ s : State, ∃ t, exec .hardReset s = .next t ∧
    t.intake.roster.length = 192 ∧ (∀ p, t.intake.rosterAt p = none) ∧
    (∀ i, i < 64 → guestSet t.intake.guestMap i = false) ∧
    t.intake.receivers.length = 4 ∧ (∀ r, r < 4 → t.receiverAt r = ⟨true, 0, 0, 0⟩) ∧
    t.intake.fifo = [] ∧ t.intake.taking = false ∧ t.intake.overrun = false ∧
    t.intake.repeats = 0 ∧ t.intake.outside = 0 ∧ t.intake.stale = 0 ∧ t.intake.port = none

/-- R153: the team records after a hard reset. -/
def Obligations.HardResetClearsTheStandings : Prop :=
  ∀ s : State, ∃ t, exec .hardReset s = .next t ∧
    t.standings.teams.length = 24 ∧
    (∀ n, isTeamNumber n = true →
      t.standings.teamAt n = ⟨false, List.replicate 10 0x20, 0, 0, 0, 0, 0, 0, false⟩ ∧
      t.standings.position n = none ∧ t.standings.rank n = none) ∧
    t.standings.counter = 0 ∧ t.standings.frozen = false ∧ t.standings.tie = .strict

/-- R66, R113, R115, R116, R164, R180, R195: the other units after a hard reset. The levels and gap measures that no rule
names a reset value for are left out (log 9). -/
def Obligations.HardResetOfTheOtherUnits : Prop :=
  ∀ s : State, ∃ t, exec .hardReset s = .next t ∧
    (∀ n, isTeamNumber n = true →
      (t.lineAt n).enabled = true ∧ (t.lineAt n).polarity = .low ∧ (t.lineAt n).filter = 5 ∧
      (t.lineAt n).state = .waitRelease ∧ (t.lineAt n).count = 0 ∧ (t.lineAt n).fresh = true) ∧
    t.consoles.floorLamps = List.replicate 24 .off ∧ t.consoles.lockLamps = List.replicate 24 .off ∧
    t.consoles.phase = .lit ∧
    t.arbiter.queue = [] ∧ t.arbiter.reopen = none ∧ t.context.holder = none ∧ t.deadline = none ∧
    t.context.locks = List.replicate 24 none ∧
    t.answers.table = List.replicate 256 none ∧ t.answers.tableSerial = none ∧ t.answers.tallyState = .none ∧
    t.answers.counts = ⟨0, 0, 0, 0, 0, 0, 0⟩ ∧ t.answers.fullMark = false ∧
    (∀ h, h ∈ [1, 2, 3, 4, 5, 6] →
      t.standings.houseAt h = ⟨List.replicate 10 0x20, false, 0, 0⟩ ∧ t.standings.place h = none) ∧
    t.standings.placePoints = [10, 8, 6, 5, 4, 3, 2, 1] ∧
    (∀ a, a ≤ 24 →
      (t.board.panelAt a).presence = .present ∧ (t.board.panelAt a).shown = none ∧ (t.board.panelAt a).held = false ∧
      (t.board.panelAt a).blinkLeft = 0 ∧ t.dirty a = true) ∧
    (∀ n, isTeamNumber n = true → t.teamTarget n = ⟨none, none, false⟩) ∧
    t.leaderTarget = ⟨.teams, List.replicate 8 none, none, none⟩ ∧
    t.board.state = .live ∧ t.board.snapshot = none ∧ t.board.cursor = 0 ∧ t.board.check = none ∧
    t.board.chain = .free ∧ t.board.pointer = 24 ∧ t.refreshChoice = some 0 ∧
    t.link.mode = .listen ∧ t.link.rate = 0 ∧ t.link.rateWindow = false ∧ t.link.buffer = [] ∧
    t.link.receiving = none ∧ t.link.flags = 0 ∧ t.link.mask = BitVec.allOnes 12 ∧ t.link.queue = [] ∧
    t.link.lost = false ∧ t.link.dropped = 0 ∧ t.link.hold = none

/-- R20, R50, R67, R91, R113, R115, R154, R164, R180, R194: the show reset. A live round's slot receives the outcome
ABANDONED, and every other slot keeps its fields. The report of its close is queued, and then every flag is cleared.
Panels keep their presence, and an operation on the chain is marked void, so that its completion sets nothing. (What of
its old run a line keeps until its next sample is the model's; log 23, log 40. So are the mark that a blink has begun, log 5,
and that a command frame received in part is kept, log 44.) -/
def Obligations.ShowResetReturnsToTheStart : Prop :=
  ∀ s : State, s.link.showReset = .due → s.list.slots.length = 128 →
    ∃ t, exec .showResetExecute s = .next t ∧
      t.list.pointer = 0 ∧ t.list.park = some (.notHandedOver, .atSlot) ∧
      (∀ k, (t.slotAt k).owner = .edit ∧ (t.slotAt k).setup = (s.slotAt k).setup ∧
        (t.slotAt k).result =
          if s.live = true ∧ k = s.context.slot then s.resultOf .abandoned none else (s.slotAt k).result) ∧
      t.engine = ⟨.idle, none, 0, s.engine.serial, 1, none⟩ ∧ t.arbiter = ⟨[], none⟩ ∧
      t.consoles.floorLamps = List.replicate 24 .off ∧ t.consoles.lockLamps = List.replicate 24 .off ∧
      t.consoles.phase = s.consoles.phase ∧ t.consoles.blinkLeft = s.consoles.blinkLeft ∧
      t.consoles.records = s.consoles.records.map (fun r => if r.state = .disabled then r else
        { r with state := .waitRelease, runStart := none, count := 0, runLength := 0, fresh := true, newRun := none }) ∧
      t.intake.fifo = [] ∧ t.intake.taking = false ∧ t.intake.overrun = false ∧ t.intake.port = none ∧
      t.intake.repeats = 0 ∧ t.intake.outside = 0 ∧ t.intake.stale = 0 ∧ t.intake.guestMap = s.intake.guestMap ∧
      t.intake.receivers = s.intake.receivers.map (fun r => { r with accepted := 0, refused := 0 }) ∧
      t.intake.roster = s.intake.roster.map (Option.map fun r =>
        { r with lastSequence := none, lastSerial := none, present := false }) ∧
      t.answers = Collector.reset ∧
      t.standings =
        { s.standings with
          teams := s.standings.teams.map fun r =>
            { r with score := 0, streak := 0, correct := 0, wrong := 0, sequence := 0, clamped := false }
          counter := 0
          frozen := false } ∧
      t.board.state = .live ∧ t.board.snapshot = none ∧ t.board.check = none ∧ t.board.mode = s.board.mode ∧
      t.board.pointer = s.board.pointer ∧ (∀ x ∈ t.board.lineHeld, x = false) ∧
      (∀ n, isTeamNumber n = true → (t.board.panelAt n).held = false) ∧
      (∀ r ∈ t.board.panels, r.shown = none ∧ r.blinkLeft = 0 ∧ r.blinkOpen = false) ∧
      (∀ a, (t.board.panelAt a).presence = (s.board.panelAt a).presence) ∧ t.board.lastKind = s.board.lastKind ∧
      (s.board.chain = .free → t.board.chain = .free) ∧
      (∀ a m v, s.board.chain = .refresh a m v → t.board.chain = .refresh a m true) ∧
      (∀ a w v, s.board.chain = .poll a w v → t.board.chain = .poll a w true) ∧
      t.link.flags = 0 ∧ t.link.showReset = .idle ∧ t.link.mode = s.link.mode ∧ t.link.rate = s.link.rate ∧
      t.link.mask = s.link.mask ∧ t.link.hold = s.link.hold ∧ t.link.buffer = s.link.buffer ∧
      (s.live = false → t.link.queue = s.link.queue ∧ t.link.lost = s.link.lost ∧ t.link.dropped = s.link.dropped) ∧
      (s.live = true →
        t.link = { s.link.note (closeReport s .abandoned none) with flags := 0, showReset := .idle }) ∧
      (s.live = false → t.link = { s.link with flags := 0, showReset := .idle }) ∧
      t.free = s.free ∧ t.pending = s.pending

/-! ### The control link -/

/-- R181, R183: in LISTEN 0x6C selects SINGLE-WIRE and 0x93 TWO-WIRE, the rate window opens, and every other byte is
ignored. In a mode, a byte outside a frame begins a frame when it is 0xC3 and is ignored otherwise; a byte after
more than 20 ms abandons the frame and is handled as a byte outside a frame; a byte while the receiver is off is lost. In
SINGLE-WIRE the receiver is off while the part transmits or a fetch goes on. (The gap is measured in ticks, and a byte is late
above 20 of them, which is the model's; log 6.) -/
def Obligations.LinkBytesSelectTheModeAndFormFrames : Prop :=
  (∀ (i : Instr) (b : Byte) (s : State), i = .modeByte b ∨ i = .linkByteReceived b → s.link.mode = .listen →
    exec i s = .next
      (if b = 0x6C then s.setLink { s.link with mode := .singleWire, rateWindow := true }
      else if b = 0x93 then s.setLink { s.link with mode := .twoWire, rateWindow := true }
      else s)) ∧
  ∀ (i : Instr) (b : Byte) (s : State), i = .modeByte b ∨ i = .linkByteReceived b → s.link.mode ≠ .listen →
    (s.link.deaf = true ↔ s.link.mode = .singleWire ∧
      (s.link.line ≠ .free ∨ (0 < s.link.fetchLeft ∧ s.link.reply = none))) ∧
    (s.link.deaf = true → exec i s = .next s) ∧
    (s.link.deaf = false → s.link.receiving = none →
      exec i s = .next (if b = 0xC3 then s.setLink { s.link with receiving := some [], gap := 0 } else s)) ∧
    (∀ r, s.link.deaf = false → s.link.receiving = some r → s.link.gap ≤ 20 →
      (r = [] → b ≠ 0 ∧ b.toNat ≤ 63) → (∀ n q, r = n :: q → q.length < n.toNat) →
      exec i s = .next (s.setLink { s.link with receiving := some (r ++ [b]), gap := 0 })) ∧
    (∀ r, s.link.deaf = false → s.link.receiving = some r → 20 < s.link.gap → ∃ t, exec i s = .next t ∧
      t.link.receiving = (if b = 0xC3 then some [] else none) ∧ t.link.gap = 0 ∧ t.link.buffer = s.link.buffer ∧
      t.link.flags.getLsbD 11 = true ∧
      t.link.queue = (s.raise (.linkFault .gap r[1]?)).link.queue ∧ t.board = s.board ∧ t.engine = s.engine ∧
      t = s.setLink
        { s.link.note ⟨none, .linkFault .gap r[1]?⟩ with receiving := if b = 0xC3 then some [] else none, gap := 0 })

/-- R183, R184, R192: the bytes of a command frame, received from its start byte on, put the frame at the back of the
receive buffer, or discard it with LINK FAULT BUFFER FULL when two frames are there. A length byte 0 or above 63, and a
gap of more than 20 ms, abandon the frame with a LINK FAULT event. (Two things are the model's. The gap is measured in
ticks: LINK_FRAME_GAP may come from 20 of them on, and at exactly 20 a byte is still taken; log 6. The rows for a frame bring
its bytes; log 3.) -/
def Obligations.FramesJoinTheBufferOrAreAbandoned : Prop :=
  (∀ (f : LinkFrame) (s : State), f.wellFormed = true → s.link.mode ≠ .listen → s.link.deaf = false →
    s.link.receiving = none →
    exec (.commandFrameComplete f) s = .next
      (if s.link.buffer.length < 2 then
        s.setLink { s.link with receiving := none, gap := 0, buffer := s.link.buffer ++ [f] }
      else
        (s.setLink { s.link with receiving := none, gap := 0 }).raise (.linkFault .bufferFull (some f.kind)))) ∧
  (∀ (n : Byte) (s : State), n = 0 ∨ 63 < n.toNat → s.link.mode ≠ .listen → s.link.deaf = false →
    s.link.receiving = none ∨ (s.link.receiving = some [] ∧ s.link.gap ≤ 20) →
      exec (.linkFrameAbandoned n) s = .next
        ((s.setLink { s.link with receiving := none, gap := 0 }).raise (.linkFault .length none))) ∧
  (∀ (r : List Byte) (s : State), s.link.receiving = some r → 20 ≤ s.link.gap →
    exec .linkFrameGap s = .next
      ((s.setLink { s.link with receiving := none, gap := 0 }).raise (.linkFault .gap r[1]?)))

/-- R182, R184, R194: the link carries out the command of the oldest frame in its buffer, unless that frame has been carried
out already, a show reset comes first or the link is in LISTEN. The reply made waits for the line, its frame counts as carried
out, and the rate window closes for any code but BAD CHECK. A desk command whose frame comes to an empty buffer waits at its
front, and is carried out there; where another frame or a show reset comes first, only its frame arrives. (That the row of a
desk command makes its frame arrive first where it is not there, and then carries it out, is the model's; log 3.) -/
def Obligations.DeskFramesArriveAndWait : Prop :=
  (∀ s : State, s.waitingCommand =
    if s.link.mode = .listen ∨ s.link.carriedOut = true ∨ s.link.showReset = .due then none
    else s.link.buffer.head?.bind LinkFrame.command) ∧
  (∀ (s : State) (r : Reply), s.reply r = s.setLink
    { s.link with
      reply := some r, carriedOut := true, rateWindow := s.link.rateWindow && r.code = .badCheck }) ∧
  ∀ (i : Instr) (f : LinkFrame) (s : State), i.wellFormed = true → i.frame = some f → s.link.mode ≠ .listen →
    s.link.deaf = false → s.link.receiving = none →
      (s.link.buffer = [] → s.link.carriedOut = false → s.link.showReset ≠ .due →
        (s.setLink { s.link with gap := 0, buffer := [f] }).waitingCommand = some i ∧
        exec i s = exec i (s.setLink { s.link with gap := 0, buffer := [f] })) ∧
      (s.waitingCommand ≠ some i → s.link.buffer ≠ [] ∨ s.link.carriedOut = true ∨ s.link.showReset = .due →
        exec i s = exec (.commandFrameComplete f) s)

/-- R193: IDENTIFY. -/
def Obligations.IdentifyAnswers : Prop :=
  ∀ s : State, s.waitingCommand = some .identify →
    exec .identify s = .next
      (s.setLink
        { s.link with
          reply := some ⟨0x01, .done, [0x4A, 0x32, 0x34, 0x30, 0x30, 1, s.link.mode.code, BitVec.ofNat 8 s.link.rate]⟩
          carriedOut := true
          rateWindow := false })

/-- R182, R187 to R190, R194: STATUS GET, SET RATE, SET NOTICE MASK, HOLD REPORTS, FETCH REPORTS and SHOW RESET. (That SET
RATE checks the window, and FETCH REPORTS the link mode, before the value is the model's; log 22.) -/
def Obligations.LinkCommandsAnswer : Prop :=
  (∀ s : State, s.waitingCommand = some .statusGet →
    Replies .statusGet s (s.setLink { s.link with flags := 0 }) .done
      ([s.engine.state.code, (s.engine.remembered.map EngineState.code).getD 0xFF,
          if s.engine.state = .idle then 0xFF else BitVec.ofNat 8 s.list.pointer.val,
          s.board.state.code, if s.standings.frozen then 1 else 0]
        ++ bytesOf 2 s.link.flags.toNat
        ++ [BitVec.ofNat 8 s.link.queue.length, if s.link.lost then 1 else 0,
            if s.link.hold.isSome then 1 else 0])) ∧
  (∀ (rate : Byte) (s : State), s.waitingCommand = some (.setRate rate) →
    (s.link.rateWindow = false → Replies (.setRate rate) s s .wrongState []) ∧
    (s.link.rateWindow = true → 3 < rate.toNat → Replies (.setRate rate) s s .outOfRange []) ∧
    (s.link.rateWindow = true → rate.toNat ≤ 3 →
      Replies (.setRate rate) s (s.setLink { s.link with newRate := some rate.toNat }) .done [rate])) ∧
  (∀ (x : BitVec 16) (s : State), s.waitingCommand = some (.setNoticeMask x) →
    (x.toNat < 4096 →
      Replies (.setNoticeMask x) s (s.setLink { s.link with mask := x.setWidth 12 }) .done (bytesOf 2 x.toNat)) ∧
    (4096 ≤ x.toNat → Replies (.setNoticeMask x) s s .outOfRange [])) ∧
  (∀ (x : BitVec 16) (s : State), s.waitingCommand = some (.holdReports x) →
    (s.link.mode = .singleWire → Replies (.holdReports x) s s .wrongState []) ∧
    (s.link.mode = .twoWire → x ≠ 0 →
      Replies (.holdReports x) s (s.setLink { s.link with hold := some x.toNat }) .done []) ∧
    (s.link.mode = .twoWire → x = 0 → Replies (.holdReports x) s (s.setLink { s.link with hold := none }) .done [])) ∧
  (∀ (n : Byte) (s : State), s.waitingCommand = some (.fetchReports n) →
    (s.link.mode = .twoWire → Replies (.fetchReports n) s s .wrongState []) ∧
    (s.link.mode = .singleWire → n = 0 ∨ 8 < n.toNat → Replies (.fetchReports n) s s .outOfRange []) ∧
    (s.link.mode = .singleWire → n ≠ 0 → n.toNat ≤ 8 →
      Replies (.fetchReports n) s (s.setLink { s.link with fetchLeft := min n.toNat s.link.queue.length }) .done
        [BitVec.ofNat 8 (min n.toNat s.link.queue.length)])) ∧
  (∀ s : State, s.waitingCommand = some .showReset →
    Replies .showReset s (s.setLink { s.link with showReset := .asked }) .done [])

/-- R182, R184, R186 to R188, R191, R194: a waiting reply begins on a free line. At its last byte the new rate applies, a show
reset asked for falls due, and the front frame leaves the buffer unless fetched reports are still to follow. The oldest
report begins on a free line with no reply waiting, in TWO-WIRE with no hold in force and in SINGLE-WIRE within a fetch; the
hold ends when its timer has run out. A report leaves the queue at its last byte; with the lost mark set, QUEUE OVERFLOW
takes the place it frees, where LINK is enabled, and the mark and the count are cleared. A reply frame carries the kind
answered, the reply code and the data (R185, R196). -/
def Obligations.RepliesAndReportsAreSent : Prop :=
  (∀ (r : Reply) (s : State), s.link.reply = some r →
    exec .replySendBegin s = .next
      (if s.link.line = .free then s.setLink { s.link with line := .reply r, reply := none } else s)) ∧
  (∀ (r : Reply) (s : State), s.link.line = .reply r →
    exec .replySent s = .next
      (s.setLink
        { s.link with
          line := .free
          rate := s.link.newRate.getD s.link.rate
          newRate := none
          showReset := if s.link.showReset = .asked then .due else s.link.showReset
          buffer := if s.link.fetchLeft = 0 then s.link.buffer.tail else s.link.buffer
          carriedOut := if s.link.fetchLeft = 0 then false else s.link.carriedOut })) ∧
  (∀ (r : Report) (q : List Report) (s : State), s.link.queue = r :: q → s.link.line = .free → s.link.reply = none →
    (s.link.mode = .twoWire → s.link.hold = none →
      exec .reportSendBegin s = .next (s.setLink { s.link with line := .report r })) ∧
    (s.link.mode = .singleWire → 0 < s.link.fetchLeft →
      exec .reportSendBegin s = .next (s.setLink { s.link with line := .report r })) ∧
    (s.link.mode = .twoWire → s.link.hold ≠ none → exec .reportSendBegin s = .next s) ∧
    (s.link.mode = .singleWire → s.link.fetchLeft = 0 → exec .reportSendBegin s = .next s)) ∧
  (∀ s : State, s.link.hold = some 0 → exec .reportHoldExpiry s = .next (s.setLink { s.link with hold := none })) ∧
  (∀ (r : Reply) (p : List Byte), p = r.kind :: r.code.code :: r.data →
    ∃ c : Byte, r.bytes = [0xC3, BitVec.ofNat 8 (p.length + 1), 0xA5] ++ p ++ [c] ∧
      (p.length + 1 + 0xA5 + (p.map BitVec.toNat).sum + c.toNat) % 256 = 0) ∧
  ∀ (r : Report) (s : State), s.link.line = .report r → s.link.queue ≠ [] → s.link.queue.length ≤ 48 →
    ∃ t, exec .reportSent s = .next t ∧
      t.link.line = .free ∧ t.link.lost = false ∧ (s.link.lost = true → t.link.dropped = 0) ∧
      t.link.queue = (if s.link.lost = true ∧ s.link.mask.getLsbD 11 = true then
        s.link.queue.tail ++ [⟨none, .queueOverflow s.link.dropped⟩] else s.link.queue.tail) ∧
      t.link.flags = (if s.link.lost = true then s.link.flags ||| BitVec.twoPow 12 11 else s.link.flags) ∧
      t.link.fetchLeft = s.link.fetchLeft - 1 ∧
      t.link.buffer = (if s.link.fetchLeft = 1 then s.link.buffer.tail else s.link.buffer) ∧
      t.link.reply = s.link.reply ∧ t.link.mode = s.link.mode ∧ t.link.mask = s.link.mask ∧
      t.link =
        { s.link with
          line := .free, lost := false, dropped := if s.link.lost = true then 0 else s.link.dropped
          queue := t.link.queue, flags := t.link.flags, fetchLeft := t.link.fetchLeft, buffer := t.link.buffer
          carriedOut := if s.link.fetchLeft = 1 then false else s.link.carriedOut } ∧
      t = s.setLink t.link ∧
      t.engine = s.engine ∧ t.list = s.list ∧ t.standings = s.standings ∧ t.board = s.board ∧ t.intake = s.intake

/-- R48, R56, R57, R111, R120, R125, R128, R152, R189, R191, R196: an event sets its class flag whatever the mask holds.
Its report joins the back of the queue when the class is enabled and the queue holds fewer than 48; a report for a full
queue sets the lost mark and is counted. The report carries the round serial where the event's rule gives one: STUCK and
CLEARED while a round is live, SCORE CHANGED for a change that a round makes. A report frame carries class code, event
code and data, and its check byte makes the sum 0 modulo 256. -/
def Obligations.EventsAreFlaggedAndQueued : Prop :=
  ([EventClass.round, .claim, .floor, .verdict, .timer, .tally, .score, .board, .intake, .roster, .list, .link].map
    EventClass.place = List.range 12) ∧
  (∀ (e : Event) (s : State),
    (e.cls ∈ [.round, .floor, .verdict, .timer, .tally] → s.serialFor e = some s.engine.serial) ∧
    (e.cls ∈ [.board, .roster, .list, .link] → s.serialFor e = none) ∧
    (e.cls = .claim → s.live = true → s.serialFor e = some s.engine.serial) ∧
    (∀ n x, e = .lineStuck n x → s.live = false → s.serialFor e = none) ∧
    (∀ n x, e = .lineCleared n x → s.live = false → s.serialFor e = none) ∧
    (∀ h, e = .audienceFull h → s.serialFor e = some s.engine.serial) ∧
    (∀ t q v a d n c k m p r, e = .scoreChanged t q v a d n c k m p r →
      s.serialFor e = if q ∈ [.verdict, .falseStart, .share] then some s.engine.serial else none)) ∧
  (∀ (r : Report) (p : List Byte), p = BitVec.ofNat 8 r.event.cls.place :: r.event.code :: r.data →
    ∃ c : Byte, r.bytes = [0xC3, BitVec.ofNat 8 (p.length + 1), 0xA6] ++ p ++ [c] ∧
      (p.length + 1 + 0xA6 + (p.map BitVec.toNat).sum + c.toNat) % 256 = 0) ∧
  ∀ (e : Event) (s : State),
    (s.raise e).link.flags = s.link.flags ||| BitVec.twoPow 12 e.cls.place ∧
    (s.link.mask.getLsbD e.cls.place = false → (s.raise e).link.queue = s.link.queue ∧
      (s.raise e).link.lost = s.link.lost ∧ (s.raise e).link.dropped = s.link.dropped) ∧
    (s.link.mask.getLsbD e.cls.place = true → s.link.queue.length < 48 →
      (s.raise e).link.queue = s.link.queue ++ [⟨s.serialFor e, e⟩] ∧ (s.raise e).link.lost = s.link.lost) ∧
    (s.link.mask.getLsbD e.cls.place = true → 48 ≤ s.link.queue.length →
      (s.raise e).link.queue = s.link.queue ∧ (s.raise e).link.lost = true ∧
      (s.raise e).link.dropped = min 255 (s.link.dropped + 1))

/-! ### The Round List -/

/-- R7, R8: WRITE ROUND stores the nineteen fields in an EDIT-owned slot and clears its outcome; a slot number above 127,
an ENGINE-owned slot and the first field with an unknown code are refused, in that order. READ ROUND returns a slot and
changes nothing. -/
def Obligations.WriteAndReadRound : Prop :=
  (∀ d : DescriptorPayload, firstFailing (codeChecks d) =
    if 3 < d.kind.toNat then some 1
    else if 127 < d.link.toNat ∧ d.link ≠ 0xFF then some 2
    else if 2 < d.falseStart.toNat then some 12
    else if 1 < d.rebound.toNat then some 13
    else if 1 < d.timeoutWrong.toNat then some 14
    else if 1 < d.streakScoring.toNat then some 15
    else if 6 < d.key.toNat then some 17
    else if 1 < d.answerLock.toNat then some 18
    else none) ∧
  (∀ (slot : Byte) (d : DescriptorPayload) (s : State), s.waitingCommand = some (.writeRound slot d) →
    (127 < slot.toNat → Replies (.writeRound slot d) s s .outOfRange [0]) ∧
    (∀ k : Fin 128, k.val = slot.toNat →
      ((s.slotAt k).owner = .engine → Replies (.writeRound slot d) s s .slotHeld []) ∧
      (∀ n, (s.slotAt k).owner = .edit → firstFailing (codeChecks d) = some n →
        Replies (.writeRound slot d) s s .outOfRange [BitVec.ofNat 8 n]) ∧
      (∀ x : Descriptor, (s.slotAt k).owner = .edit → DescriptorPayload.ofBytes x.bytes = some d →
        Replies (.writeRound slot d) s
          (s.setList { s.list with slots := s.list.slots.set k.val ⟨x, .edit, ⟨.none, none, 0, 0, 0⟩⟩ }) .done []))) ∧
  (∀ (slot : Byte) (s : State), s.waitingCommand = some (.readRound slot) →
    (127 < slot.toNat → Replies (.readRound slot) s s .outOfRange []) ∧
    (∀ k : Fin 128, k.val = slot.toNat →
      Replies (.readRound slot) s s .done
        ((s.slotAt k).setup.bytes
          ++ [(s.slotAt k).owner.code, (s.slotAt k).result.outcome.code,
              ((s.slotAt k).result.winner.map (BitVec.ofNat 8)).getD 0xFF, BitVec.ofNat 8 (s.slotAt k).result.claims,
              BitVec.ofNat 8 (s.slotAt k).result.wrong]
          ++ bytesOf 2 (s.slotAt k).result.duration)))

/-- R2, R3, R5, R9 to R11: HAND OVER and TAKE BACK by slot, owner and engine state; the checks of HAND OVER in field-number
order, of which the first that fails is told, and which descriptors pass every one. A field that the kind does not use is not
checked. (The form of the list position in the reply of a TAKE BACK that un-cues is the model's; log 16.) -/
def Obligations.HandOverAndTakeBack : Prop :=
  (∀ d : Descriptor, firstFailing d.checks =
    if d.kind = .none then some 1
    else if (d.kind = .buzz ∨ d.kind = .choice) ∧ 500 < d.basePoints.toNat then some 3
    else if d.kind = .buzz ∧ 500 < d.penalty.toNat then some 4
    else if d.kind = .buzz ∧ 250 < d.bonusMax.toNat then some 5
    else if d.kind = .buzz ∧ 300 < d.bonusWindow.toNat then some 6
    else if d.timeLimit.toNat < 10 ∨ 9000 < d.timeLimit.toNat then some 7
    else if d.readingLimit = 0 ∨ 120 < d.readingLimit.toNat then some 8
    else if d.kind = .buzz ∧ (d.answerWindow = 0 ∨ 60 < d.answerWindow.toNat) then some 9
    else if d.kind = .buzz ∧ 50 < d.settleWindow.toNat then some 10
    else if d.kind = .buzz ∧ (d.wrongLimit = 0 ∨ 24 < d.wrongLimit.toNat) then some 11
    else if (d.kind = .choice ∨ d.kind = .poll) ∧ (d.options.toNat < 2 ∨ 6 < d.options.toNat) then some 16
    else if d.kind = .choice ∧ d.key ∈ [OptKey.a, .b, .c, .d, .e, .f].filterMap fun k =>
        if d.options.toNat < k.place then some (RoundKey.given k) else none then some 17
    else if (d.kind = .buzz ∨ d.kind = .choice) ∧ d.teamSet = 0 then some 19
    else none) ∧
  (∀ d : Descriptor, firstFailing d.checks = none ↔
    d.kind ≠ .none ∧ 10 ≤ d.timeLimit.toNat ∧ d.timeLimit.toNat ≤ 9000 ∧ 1 ≤ d.readingLimit.toNat ∧
      d.readingLimit.toNat ≤ 120 ∧
      (d.kind = .buzz ∨ d.kind = .choice → d.basePoints.toNat ≤ 500 ∧ d.teamSet ≠ 0) ∧
      (d.kind = .buzz → d.penalty.toNat ≤ 500 ∧ d.bonusMax.toNat ≤ 250 ∧ d.bonusWindow.toNat ≤ 300 ∧
        1 ≤ d.answerWindow.toNat ∧ d.answerWindow.toNat ≤ 60 ∧ d.settleWindow.toNat ≤ 50 ∧
        1 ≤ d.wrongLimit.toNat ∧ d.wrongLimit.toNat ≤ 24) ∧
      (d.kind = .choice ∨ d.kind = .poll → 2 ≤ d.options.toNat ∧ d.options.toNat ≤ 6) ∧
      (d.kind = .choice → d.key = .held ∨ ∃ k, d.key = .given k ∧ k.place ≤ d.options.toNat)) ∧
  (∀ (slot : Byte) (s : State), s.waitingCommand = some (.handOver slot) →
    (127 < slot.toNat → Replies (.handOver slot) s s .outOfRange [0]) ∧
    (∀ k : Fin 128, k.val = slot.toNat →
      ((s.slotAt k).owner = .engine → Replies (.handOver slot) s s .slotHeld []) ∧
      (∀ n, (s.slotAt k).owner = .edit → firstFailing (s.slotAt k).setup.checks = some n →
        Replies (.handOver slot) s s .outOfRange [BitVec.ofNat 8 n]) ∧
      ((s.slotAt k).owner = .edit → firstFailing (s.slotAt k).setup.checks = none →
        Replies (.handOver slot) s
          (s.setList { s.list with slots := s.list.slots.set k.val { s.slotAt k with owner := .engine } }) .done []))) ∧
  (∀ (slot : Byte) (s : State), s.waitingCommand = some (.takeBack slot) →
    (127 < slot.toNat → Replies (.takeBack slot) s s .outOfRange []) ∧
    (∀ k : Fin 128, k.val = slot.toNat →
      ((s.slotAt k).owner = .edit → Replies (.takeBack slot) s s .done []) ∧
      ((s.slotAt k).owner = .engine → s.engine.state = .idle ∨ s.list.pointer ≠ k →
        Replies (.takeBack slot) s
          (s.setList { s.list with slots := s.list.slots.set k.val { s.slotAt k with owner := .edit } }) .done []) ∧
      ((s.slotAt k).owner = .engine → s.engine.state = .cued → s.list.pointer = k →
        Replies (.takeBack slot) s
          (((s.setList
              ⟨s.list.slots.set k.val { s.slotAt k with owner := .edit }, k, some (.notHandedOver, .atSlot)⟩).setEngine
              { s.engine with state := .idle }).raise (.listIdle k .notHandedOver .atSlot))
          .done [0, BitVec.ofNat 8 k.val, 1, 1]) ∧
      ((s.slotAt k).owner = .engine → s.live = true → s.list.pointer = k →
        Replies (.takeBack slot) s s .slotHeld [])))

/-- R6, R12 to R14: SET POINTER cues or parks at the named slot; GO examines the link of a slot parked AFTER CLOSE, and
the owner of a slot parked AT SLOT. Cueing leaves the engine CUED with no park record and raises LIST CUED; parking leaves
it IDLE with the park record and raises LIST IDLE. The reply carries the position reached (its form is the model's; log 16. So
is the order of the checks: the slot number before the state; log 22). -/
def Obligations.SetPointerAndGo : Prop :=
  (∀ (s : State) (k : Fin 128) (reason : ParkReason) (basis : ParkBasis),
    s.cueAt k =
      ((s.setList ⟨s.list.slots, k, none⟩).setEngine { s.engine with state := .cued }).raise (.listCued k) ∧
    s.parkAt k reason basis =
      ((s.setList ⟨s.list.slots, k, some (reason, basis)⟩).setEngine { s.engine with state := .idle }).raise
        (.listIdle k reason basis)) ∧
  (∀ (slot : Byte) (s : State), s.waitingCommand = some (.setPointer slot) →
    (127 < slot.toNat → Replies (.setPointer slot) s s .outOfRange []) ∧
    (∀ k : Fin 128, k.val = slot.toNat →
      (s.live = true → Replies (.setPointer slot) s s .wrongState []) ∧
      (s.live = false → (s.slotAt k).owner = .engine →
        Replies (.setPointer slot) s (s.cueAt k) .done [1, slot, 0xFF, 0xFF]) ∧
      (s.live = false → (s.slotAt k).owner = .edit →
        Replies (.setPointer slot) s (s.parkAt k .notHandedOver .atSlot) .done [0, slot, 1, 1]))) ∧
  (∀ s : State, s.waitingCommand = some .go →
    (s.engine.state ≠ .idle → Replies .go s s .wrongState []) ∧
    (∀ reason, s.engine.state = .idle → s.list.park = some (reason, .atSlot) →
      ((s.slotAt s.list.pointer).owner = .engine →
        Replies .go s (s.cueAt s.list.pointer) .done [1, BitVec.ofNat 8 s.list.pointer.val, 0xFF, 0xFF]) ∧
      ((s.slotAt s.list.pointer).owner = .edit →
        Replies .go s (s.parkAt s.list.pointer .notHandedOver .atSlot) .done
          [0, BitVec.ofNat 8 s.list.pointer.val, 1, 1])) ∧
    (∀ reason, s.engine.state = .idle → s.list.park = some (reason, .afterClose) →
      ((s.slotAt s.list.pointer).setup.link = none →
        Replies .go s (s.parkAt s.list.pointer .noLink .afterClose) .done
          [0, BitVec.ofNat 8 s.list.pointer.val, 0, 0]) ∧
      (∀ j, (s.slotAt s.list.pointer).setup.link = some j → (s.slotAt j).owner = .engine →
        Replies .go s (s.cueAt j) .done [1, BitVec.ofNat 8 j.val, 0xFF, 0xFF]) ∧
      (∀ j, (s.slotAt s.list.pointer).setup.link = some j → (s.slotAt j).owner = .edit →
        Replies .go s (s.parkAt s.list.pointer .notHandedOver .afterClose) .done
          [0, BitVec.ofNat 8 s.list.pointer.val, 1, 0])))

/-- R15 to R17, R47: a close writes the outcome into the slot and hands it back, and then walks at most one link from
it; the queue, the lock set, the holder and the lamps are cleared, and the clock keeps its value. The claims and wrong
answers of a CHOICE or POLL round are 0. ROUND CLOSED is told with its values (R48), claims left being the length of the queue
as the close begins, and then LIST CUED or LIST IDLE of the walk. The rest of the round context keeps its values. (The field
settleDue is the model's; log 45.) -/
def Obligations.CloseWritesTheOutcomeAndWalks : Prop :=
  (∀ (o : RoundOutcome) (w : Option Nat) (s : State),
    (s.resultOf o w).outcome = o ∧ (s.resultOf o w).winner = w ∧ (s.resultOf o w).duration = s.engine.clock / 100 ∧
    (s.context.kind = .buzz → (s.resultOf o w).claims = s.context.claimsAdmitted ∧
      (s.resultOf o w).wrong = s.context.wrongCount) ∧
    (s.context.kind ≠ .buzz → (s.resultOf o w).claims = 0 ∧ (s.resultOf o w).wrong = 0) ∧
    (s.engine.clock ≤ clockMax → (s.resultOf o w).duration ≤ 10485)) ∧
  ∀ (o : RoundOutcome) (s : State), s.list.slots.length = 128 →
    Closes s (s.close o) o none ∧
      Tells s (s.close o) [closeReport s o none, walkReport s] ∧
      (s.close o).intake = s.intake ∧ (s.close o).answers = s.answers ∧ (s.close o).standings = s.standings ∧
      (s.close o).board = s.board


/-! ### The Round Engine -/

/-- R22: the engine commands out of their states are answered WRONG STATE, whatever their values and the remembered
state; a value out of range in an accepting state is answered OUT OF RANGE; nothing changes. -/
def Obligations.EngineCommandsAreRefused : Prop :=
  ∀ s : State,
    (s.waitingCommand = some .startRound → s.engine.state ≠ .cued → Replies .startRound s s .wrongState []) ∧
    (s.waitingCommand = some .startRound → s.engine.state = .cued → s.standings.frozen = true →
      Replies .startRound s s .frozen []) ∧
    (s.waitingCommand = some .openRound → s.engine.state ≠ .reading → Replies .openRound s s .wrongState []) ∧
    (s.waitingCommand = some .closeRound → s.engine.state ≠ .opened ∨ s.context.kind = .buzz →
      Replies .closeRound s s .wrongState []) ∧
    (∀ v, s.waitingCommand = some (.judge v) →
      (s.engine.state ≠ .floor → Replies (.judge v) s s .wrongState []) ∧
      (s.engine.state = .floor → 1 < v.toNat → Replies (.judge v) s s .outOfRange [])) ∧
    (∀ b, s.waitingCommand = some (.revealKey b) →
      (s.engine.state ≠ .awaitKey → Replies (.revealKey b) s s .wrongState []) ∧
      (s.engine.state = .awaitKey → b = 0 ∨ 6 < b.toNat ∨ s.setup.options.toNat < b.toNat →
        Replies (.revealKey b) s s .outOfRange [])) ∧
    (s.waitingCommand = some .pause →
      s.engine.state = .idle ∨ s.engine.state = .cued ∨ s.engine.state = .tallying ∨ s.engine.state = .paused →
        Replies .pause s s .wrongState []) ∧
    (s.waitingCommand = some .resume → s.engine.state ≠ .paused → Replies .resume s s .wrongState []) ∧
    (s.waitingCommand = some .abandon → s.engine.state = .idle ∨ s.engine.state = .cued →
      Replies .abandon s s .wrongState [])

/-- R24, R27 to R31: START ROUND puts the round of the pointer slot into READING with a fresh context, the clock at 0 and
the next serial; the outcome fields and the answer table are cleared. OPEN ROUND in READING, and the reading timer at 0,
open the round once; the expiry is told first. (The 0xFF for no remembered state is log 15, and that the row of the reading
timer has no effect before 0 is log 1; both are the model's, and so is the field settleDue; log 45.) -/
def Obligations.RoundsStartAndOpen : Prop :=
  (∀ d : Descriptor, d.timeLimitMs = d.timeLimit.toNat * 100) ∧
  (∀ s : State, s.waitingCommand = some .startRound → s.engine.state = .cued → s.standings.frozen = false →
    s.list.slots.length = 128 →
    ∃ t k d n, k = s.list.pointer ∧ d = (s.slotAt k).setup ∧ n = s.engine.serial + 1 ∧
      Replies .startRound s t .done [2, BitVec.ofNat 8 k.val, n] ∧
      t.engine = ⟨.reading, none, 0, n, s.engine.tieStart,
        some ⟨k, d.kind, n, none, false, none, none, 0, 0, 0, List.replicate 24 none, none,
          d.readingLimit.toNat * 1000, none, none, none, false⟩⟩ ∧
      (∀ j, t.slotAt j = if j = k then { s.slotAt k with result := ⟨.none, none, 0, 0, 0⟩ } else s.slotAt j) ∧
      t.list.pointer = k ∧ t.list.park = s.list.park ∧
      t.answers.table = List.replicate 256 none ∧ t.answers.tableSerial = some n ∧
      t.answers.counts = ⟨0, 0, 0, 0, 0, 0, 0⟩ ∧ t.answers.fullMark = false ∧ t.answers.tallyState = .none ∧
      t.answers.tally = none ∧
      (∃ teams, t.answers.about = some ⟨d.kind, d.options.toNat, d.key, teams⟩ ∧
        ∀ i, i < 24 → teams.getLsbD i = (d.teamSet.getLsbD i && (s.standings.teamAt (i + 1)).playing)) ∧
      t.link = s.link.note ⟨some n, .roundStarted k d.kind⟩ ∧ t.arbiter = s.arbiter ∧ t.consoles = s.consoles ∧
      t.intake = s.intake ∧ t.standings = s.standings ∧ t.board = s.board ∧
      t.free = s.free ∧ t.pending = s.pending ∧ t.slotShown = some k.val ∧ t.countdown = none) ∧
  ∀ (s : State) (c : Context), s.engine.state = .reading → s.engine.round = some c →
    (s.waitingCommand = some .openRound → s.engine.remembered = none →
      ∃ t, EntersOpen s t c ∧ Replies .openRound s t .done [3, 0xFF]) ∧
    (c.readingLeft = 0 →
      ∃ t, EntersOpen (s.raise (.timerExpired .reading none none)) t c ∧ exec .readingTimerExpiry s = .next t) ∧
    (c.readingLeft ≠ 0 → exec .readingTimerExpiry s = .next s)

/-- R21, R43 to R46, R94, R130: PAUSE and RESUME change the engine state and the remembered state only, and RESUME tests the
grant condition where the round settles. Where a claim was admitted in a pause of OPEN (settleDue, the model's field;
log 45), RESUME makes the change to SETTLING, also where the queue is empty again. ABANDON closes the round ABANDONED; a
tally that has not completed becomes DISCARDED, no score changes, and ROUND CLOSED and the LIST event of the walk are told.
A round is live out of IDLE and CUED; in PAUSED the remembered state stands for the state. (The 0xFF for no remembered state is
log 15, and that ROUND RESUMED comes before what the grant test brings is log 34; both are the model's.) -/
def Obligations.RoundsPauseResumeAndAbandon : Prop :=
  (∀ s : State, (s.live = true ↔ s.engine.state ≠ .idle ∧ s.engine.state ≠ .cued) ∧
    (s.engine.state ≠ .paused → s.phase = s.engine.state) ∧
    (∀ x, s.engine.state = .paused → s.engine.remembered = some x → s.phase = x)) ∧
  ∀ s : State, s.list.slots.length = 128 →
    (s.waitingCommand = some .pause → s.engine.state ∈ [.reading, .opened, .settling, .floor, .awaitKey] →
      Replies .pause s
        ((s.setEngine { s.engine with state := .paused, remembered := some s.engine.state }).raise
          (.roundPaused s.engine.state s.engine.clock)) .done [8, s.engine.state.code]) ∧
    (∀ x u, s.waitingCommand = some .resume → s.engine.state = .paused → s.engine.remembered = some x → x ≠ .paused →
      u = (s.setEngine { s.engine with state := x, remembered := none }).raise (.roundResumed x s.engine.clock) →
      (x ≠ .settling → (x = .opened → s.context.settleDue = false) → Replies .resume s u .done [x.code, 0xFF]) ∧
      (x = .settling → Replies .resume s u.testGrant .done [u.testGrant.engine.state.code, 0xFF]) ∧
      (x = .opened → s.context.settleDue = true →
        ∃ w, w = u.setEngine
            { u.engine with
              state := .settling, round := u.engine.round.map fun c => { c with settleDue := false } } ∧
          Replies .resume s w.testGrant .done [w.testGrant.engine.state.code, 0xFF])) ∧
    (s.waitingCommand = some .abandon → s.live = true →
      ∃ t, Replies .abandon s t .done [t.engine.state.code, 0xFF] ∧ (t.engine.state = .idle ∨ t.engine.state = .cued) ∧
        (t.slotAt s.context.slot).result = s.resultOf .abandoned none ∧ Closes s t .abandoned none ∧
        t.answers =
          (if (s.context.kind = .choice ∨ s.context.kind = .poll) ∧ s.answers.tallyState = .none then
            { s.answers with tallyState := .discarded, tally := none } else s.answers) ∧
        t.arbiter = ⟨[], none⟩ ∧ t.engine.remembered = none ∧ t.engine.clock = s.engine.clock ∧
        t.standings = s.standings ∧ t.intake = s.intake ∧ t.board = s.board ∧
        Tells s t [closeReport s .abandoned none, walkReport s])

/-- R40, R41, R125: CLOSE ROUND, and the round timer at 0, take a CHOICE or POLL round to TALLYING with the clock as the
close mark. There it stays while the intake holds an entry that arrived in time; else the tally completes at once: a
POLL closes POLLED, a CHOICE with a key closes SCORED, and a HELD key is awaited. ROUND TALLYING, TALLY COUNTED with its
values, the SCORE events of the shares in team order, and ROUND CLOSED with the LIST event of the walk, or ROUND
AWAITING KEY, are told in this order, after the TIMER EXPIRED of the timer. The same test completes a tally that waits,
as a take completes (R75). (The 0xFF for no remembered state in the reply is the model's; log 15. So is that the row of
the timer has no effect where its moment is not there; log 1.) -/
def Obligations.RoundsAreTallied : Prop :=
  (∀ s : State, s.engine.state ≠ .tallying ∨ s.context.closeMark = none → s.testTally = s) ∧
  (∀ (m : Nat) (s : State), s.list.slots.length = 128 → s.engine.state = .tallying → s.context.closeMark = some m →
    s.context.kind = .choice ∨ s.context.kind = .poll →
    (s.intakeHolds m = true → s.testTally = s) ∧ (s.intakeHolds m = false → TallyCompletes s s.testTally [])) ∧
  (∀ s : State, s.engine.state ∉ [.opened, .settling] ∨ s.context.roundLeft ≠ some 0 →
    exec .roundTimerExpiry s = .next s) ∧
  ∀ s : State, s.list.slots.length = 128 → s.engine.state = .opened → s.engine.remembered = none →
    s.context.kind = .choice ∨ s.context.kind = .poll → s.engine.round.isSome = true →
    (s.waitingCommand = some .closeRound →
      (s.intakeHolds s.engine.clock = true → ∃ t, EntersTallying s t ∧ Replies .closeRound s t .done [6, 0xFF]) ∧
      (s.intakeHolds s.engine.clock = false → ∃ t, TallyCompletes s t [tallyingReport s] ∧
        Replies .closeRound s t .done [t.engine.state.code, 0xFF])) ∧
    (s.context.roundLeft = some 0 →
      (s.intakeHolds s.engine.clock = true →
        ∃ t, EntersTallying (s.raise (.timerExpired .round none none)) t ∧ exec .roundTimerExpiry s = .next t) ∧
      (s.intakeHolds s.engine.clock = false → ∃ t,
        TallyCompletes (s.raise (.timerExpired .round none none)) t [tallyingReport s] ∧
        exec .roundTimerExpiry s = .next t))

/-- R42, R128: REVEAL KEY in AWAIT KEY counts each team's right answers against the key, applies the shares in team order
and closes the round SCORED; the slot's key field keeps HELD. TALLY KEYED with its values is told, then the SCORE event of each
share, ROUND CLOSED and the LIST event of the walk. (The 0xFF for no remembered state in the reply is the model's;
log 15.) -/
def Obligations.RevealKeyScoresTheRound : Prop :=
  ∀ (b : Byte) (k : OptKey) (y : Tally) (s : State), s.waitingCommand = some (.revealKey b) →
    s.list.slots.length = 128 → s.engine.state = .awaitKey → s.engine.round.isSome = true →
    s.answers.tally = some y → k.code = b → k.place ≤ s.setup.options.toNat →
    ∃ t z, z = { y.keyed s.answers s.setup.basePoints.toNat k with revealed := some k } ∧
      Replies (.revealKey b) s t .done [t.engine.state.code, 0xFF] ∧ t.live = false ∧
      t.answers.tallyState = .keyed ∧ t.answers.tally = some z ∧ t.answers.table = s.answers.table ∧
      t.standings = z.requests.foldl Standings.apply s.standings ∧
      t.answers = { s.answers with tallyState := .keyed, tally := some z } ∧ Closes s t .scored none ∧
      (t.slotAt s.context.slot).result = s.resultOf .scored none ∧
      (t.slotAt s.context.slot).setup = (s.slotAt s.context.slot).setup ∧ t.intake = s.intake ∧ t.board = s.board ∧
      Tells s t (keyedReport s k z :: scoreReports (some s.engine.serial) s.standings z.requests
        ++ [closeReport s .scored none, walkReport s])

/-- R114, R116 to R122: the first check that applies decides what becomes of an option key; RECORDED places an entry at the
handset's roster position, or in a guest slot that holds its id or else the lowest free one; CHANGED replaces option and
stamp; every key adds 1 to its outcome's count; the first AUDIENCE FULL drop sets the mark and is told. -/
def Obligations.AnswersAreCheckedAndRecorded : Prop :=
  ∀ (s : State) (k : AnswerKey) (o : AnswerOutcome) (x y : Collector), o = s.answerOutcome k → x = s.answers →
    y = (s.answer k).answers →
    (s.context.kind = .buzz → o = .ignored) ∧
    (s.context.kind = .choice ∨ s.context.kind = .poll →
      (k.paused = true → o = .paused) ∧
      (k.paused = false → (∀ t, s.context.openTime = some t → k.stamp < t) → o = .early) ∧
      (∀ t, k.paused = false → s.context.openTime = some t → t ≤ k.stamp →
        (s.phase = .awaitKey ∨ (s.phase = .tallying ∧ ∃ m, s.context.closeMark = some m ∧ m < k.arrival) → o = .late) ∧
        (s.phase ≠ .awaitKey → (s.phase = .tallying → ∀ m, s.context.closeMark = some m → k.arrival ≤ m) →
          (s.setup.options.toNat < k.option.place → o = .ignored) ∧
          (s.context.kind = .choice → (k.position = none ∨ ∀ n, k.team = some n → s.inPlay n = false) → o = .ignored) ∧
          (k.option.place ≤ s.setup.options.toNat →
            s.context.kind = .poll ∨ (k.position ≠ none ∧ ∃ n, k.team = some n ∧ s.inPlay n = true) →
            (∀ p e, x.positionOf k = some p → x.table[p]? = some (some e) →
              o = if s.setup.answerLock = .first then .ignored else .changed) ∧
            (∀ p, x.positionOf k = some p → x.table[p]? = some none → o = .recorded) ∧
            (x.positionOf k = none → o = .audienceFull))))) ∧
    (∀ p, k.position = some p → x.positionOf k = some p) ∧
    (∀ p, k.position = none → x.positionOf k = some p →
      192 ≤ p ∧ ((∃ e, x.table[p]? = some (some e) ∧ e.handset = k.handset) ∨
        ((∀ (q : Nat) (e : AnswerEntry), 192 ≤ q → x.table[q]? = some (some e) → e.handset ≠ k.handset) ∧
          x.table[p]? = some none ∧ ∀ q, 192 ≤ q → q < p → x.table[q]? ≠ some none))) ∧
    (k.position = none → (x.positionOf k = none ↔
      ∀ q e, 192 ≤ q → x.table[q]? = some e → ∃ d : AnswerEntry, e = some d ∧ d.handset ≠ k.handset)) ∧
    (∀ p, o = .recorded → x.positionOf k = some p →
      y.table = x.table.set p (some ⟨k.handset, k.team, k.option, k.stamp.toNat, 0⟩)) ∧
    (∀ p e, o = .changed → x.positionOf k = some p → x.table[p]? = some (some e) →
      y.table = x.table.set p
        (some { e with option := k.option, stamp := k.stamp.toNat, changes := min 15 (e.changes + 1) })) ∧
    (o ∉ [.recorded, .changed] → y.table = x.table) ∧
    y.counts =
      ⟨if o = .recorded then min 65535 (x.counts.recorded + 1) else x.counts.recorded,
        if o = .changed then min 65535 (x.counts.changed + 1) else x.counts.changed,
        if o = .ignored then min 65535 (x.counts.ignored + 1) else x.counts.ignored,
        if o = .paused then min 65535 (x.counts.paused + 1) else x.counts.paused,
        if o = .early then min 65535 (x.counts.early + 1) else x.counts.early,
        if o = .late then min 65535 (x.counts.late + 1) else x.counts.late,
        if o = .audienceFull then min 65535 (x.counts.audienceFull + 1) else x.counts.audienceFull⟩ ∧
    y.fullMark = (x.fullMark || (o = .audienceFull : Bool)) ∧ y.tableSerial = x.tableSerial ∧
    y.tallyState = x.tallyState ∧ y.tally = x.tally ∧
    (s.answer k).link = (if o = .audienceFull ∧ x.fullMark = false then
      s.link.note ⟨some s.engine.serial, .audienceFull k.handset⟩ else s.link) ∧
    y.about = x.about ∧ s.answer k = (s.setAnswers y).setLink (s.answer k).link ∧
    (s.answer k).engine = s.engine ∧ (s.answer k).list = s.list ∧ (s.answer k).arbiter = s.arbiter ∧
    (s.answer k).intake = s.intake ∧ (s.answer k).standings = s.standings ∧ (s.answer k).board = s.board

/-- R124, R126, R129: the option counts, N, m_t, c_t and the shares of a tally. A team that is not counted has none of
the last three, and a team with no answer has no share. The tally of the round counts the options that its descriptor has in
play, by the kind of the round, over the teams that are in its team set and playing. (That c_t is there, and 0, for a counted
team without an answer is the model's; log 46.) -/
def Obligations.TalliesCountTheAnswers : Prop :=
  (∀ y : Tally, y.requests = ((List.range 24).map (· + 1)).filterMap fun t =>
    (y.shareAt t).map fun n => ⟨t, .share, none, none, .by (n : Nat)⟩) ∧
  (∀ s : State, s.countNow =
    s.answers.count (s.slotAt s.context.slot).setup.options.toNat (s.context.kind = .poll) fun t =>
      isTeamNumber t && (s.slotAt s.context.slot).setup.teamSet.getLsbD (t - 1) && (s.standings.teamAt t).playing) ∧
  ∀ (x : Collector) (n p : Nat) (poll : Bool) (counted : Nat → Bool) (k : OptKey) (y : Tally),
    y = x.count n poll counted →
    y.total = (x.table.filterMap id).length ∧
    (∀ i, i < n → i < 6 →
      y.counts[i]? = some ((x.table.filterMap id).countP fun e => e.option.place = i + 1)) ∧
    y.counts.length = min n 6 ∧
    (poll = true → y.percents = y.counts.map fun c =>
      if y.total = 0 then 0 else (200 * c + y.total) / (2 * y.total)) ∧
    (∀ t, isTeamNumber t = true →
      y.members[t - 1]? = some (if poll = false ∧ counted t = true then
        some ((x.table.filterMap id).countP fun e => e.team = some t) else none) ∧
      (y.keyed x p k).right[t - 1]? = some (if poll = false ∧ counted t = true then
        some ((x.table.filterMap id).countP fun e => e.team = some t && e.option = k) else none) ∧
      (y.keyed x p k).shareAt t =
        if poll = false ∧ counted t = true ∧ 0 < (x.table.filterMap id).countP fun e => e.team = some t then
          some (shareOf p ((x.table.filterMap id).countP fun e => e.team = some t && e.option = k)
            ((x.table.filterMap id).countP fun e => e.team = some t))
        else none)

/-! ### The Floor Arbiter -/

/-- R92 to R94, R97 to R99, R109: the first admission check that applies decides a claim. A refused claim changes nothing
but that its CLAIM event is told; where its stamp is below 0, the bytes told for it are a free value (the model's; log 11). An
admitted claim enters the queue with the next arrival number, and a replacing claim takes its team's place with the old
number; the CLAIM event is told with the place in the queue, the head being place 1 (the model's; log 20), and then the grant
condition is tested. A claim admitted in a pause of OPEN leaves the change to SETTLING due (the model's field; log 45). -/
def Obligations.ClaimsAreCheckedAndQueued : Prop :=
  (∀ (s : State) (t : Nat), s.inPlay t = true ↔
    isTeamNumber t = true ∧ s.setup.teamSet.getLsbD (t - 1) = true ∧ (s.standings.teamAt t).playing = true) ∧
  (∀ (x : Arbiter) (t : Nat), (x.claimOf t = none ↔ ∀ c ∈ x.queue, c.team ≠ t) ∧
    ∀ c, x.claimOf t = some c → c ∈ x.queue ∧ c.team = t) ∧
  (∀ (n : Nat) (a b : QueuedClaim), a.before n b = true ↔
    a.stamp < b.stamp ∨ (a.stamp = b.stamp ∧ (a.team + 24 - n) % 24 < (b.team + 24 - n) % 24)) ∧
  ∀ (s : State) (o : Offer),
    (o.paused = true → s.claimOutcome o = .paused) ∧
    (o.paused = false → (s.inPlay o.team = false → s.claimOutcome o = .notInPlay) ∧
      (s.inPlay o.team = true → (s.isFalseStart o = true ↔
          s.phase = .reading ∨ ∀ t, s.context.openTime = some t → o.stamp < t) ∧
        (s.isFalseStart o = true → s.claimOutcome o = s.falseStartOutcome o.team) ∧
        (s.isFalseStart o = false →
          (s.context.lockOf o.team ≠ none → s.claimOutcome o = .locked) ∧
          (s.context.lockOf o.team = none →
            (s.context.holder.map Holder.team = some o.team → s.claimOutcome o = .holdsFloor) ∧
            (s.context.holder.map Holder.team ≠ some o.team →
              ((∃ e, s.context.timeCalled = true ∧ s.context.expiryStamp = some e ∧ (e : Int) ≤ o.stamp) →
                s.claimOutcome o = .late) ∧
              ((∀ e, s.context.timeCalled = true → s.context.expiryStamp = some e → o.stamp < e) →
                ((∃ m, s.arbiter.reopen = some m ∧ o.stamp < m) → s.claimOutcome o = .beforeReopen) ∧
                ((∀ m, s.arbiter.reopen = some m → (m : Int) ≤ o.stamp) →
                  (s.arbiter.claimOf o.team = none → s.claimOutcome o = .admitted) ∧
                  (∀ c, s.arbiter.claimOf o.team = some c →
                    s.claimOutcome o = if o.stamp < c.stamp then .replaced else .duplicate)))))))) ∧
    (s.claimOutcome o ∈ [.duplicate, .locked, .holdsFloor, .late, .paused, .notInPlay, .beforeReopen,
        .falseStartIgnored, .falseStartAlreadyLocked] →
      s.offer o =
        (s.setLink (s.link.note
          ⟨some s.engine.serial,
            .claim o.team (s.claimOutcome o) o.stamp
              (if o.stamp < 0 then Config.unstatedStamp s.free o.stamp.natAbs else 0) o.source o.arrival none none
              none⟩)).setFree
          (if o.stamp < 0 then s.free + 1 else s.free)) ∧
    (s.claimOutcome o = .admitted → ∃ (u : State) (n : Nat), n = min 255 (s.context.claimsAdmitted + 1) ∧ s.offer o = u.testGrant ∧
      u.arbiter.queue.Perm
        (⟨o.team, o.stamp.toNat, o.source, n⟩ :: s.arbiter.queue.filter fun c => c.team ≠ o.team) ∧
      (s.engine.round.isSome = true → u.context =
        { s.context with
          claimsAdmitted := n
          settleDue := s.context.settleDue || (s.engine.state = .paused && s.phase = .opened) }) ∧
      (∃ p, (u.arbiter.queue[p]?).map QueuedClaim.team = some o.team ∧
        u.link = s.link.note
          ⟨some s.engine.serial, .claim o.team .admitted o.stamp 0 o.source o.arrival (some n) (some (p + 1)) none⟩) ∧
      u.arbiter.reopen = s.arbiter.reopen ∧
      u.engine.state = (if s.engine.state = .opened then .settling else s.engine.state) ∧
      u.engine.remembered = s.engine.remembered ∧ u.engine.clock = s.engine.clock ∧
      u.engine.serial = s.engine.serial ∧ u.engine.tieStart = s.engine.tieStart ∧
      u.consoles = s.consoles ∧ u.standings = s.standings ∧ u.list = s.list ∧ u.intake = s.intake ∧
      u.answers = s.answers ∧ u.board = s.board ∧ u.free = s.free ∧ u.pending = s.pending) ∧
    (∀ c, s.claimOutcome o = .replaced → s.arbiter.claimOf o.team = some c →
      ∃ u : State, s.offer o = u.testGrant ∧ u.engine = s.engine ∧
        u.arbiter.queue.Perm
          (⟨o.team, o.stamp.toNat, o.source, c.number⟩ :: s.arbiter.queue.filter fun c => c.team ≠ o.team) ∧
        (∃ p, (u.arbiter.queue[p]?).map QueuedClaim.team = some o.team ∧
          u.link = s.link.note
            ⟨some s.engine.serial, .claim o.team .replaced o.stamp 0 o.source o.arrival (some c.number) (some (p + 1))
              (some c.stamp)⟩) ∧
        u.arbiter.reopen = s.arbiter.reopen ∧ u.consoles = s.consoles ∧ u.standings = s.standings ∧
        u.list = s.list ∧ u.intake = s.intake ∧ u.answers = s.answers ∧ u.board = s.board ∧ u.free = s.free ∧
        u.pending = s.pending)

/-- R64, R95, R96, R144: a false start under LOCK or PENALISE puts the team in the lock set, lights its LOCK lamp and
withdraws its queued claim; PENALISE asks for a score change of −Q. Where the withdrawn claim was the head, the grant
condition is tested. CLAIM is told first, then WITHDRAWN and SCORE CHANGED, in an order that is left free (the model's;
log 12; so are the bytes of a stamp below 0, log 11, and that both come before what the grant test brings, log 42). -/
def Obligations.FalseStartsLockTheTeam : Prop :=
  ∀ (s : State) (o : Offer), isTeamNumber o.team = true → s.engine.round.isSome = true →
    s.context.locks.length = 24 → s.consoles.lockLamps.length = 24 →
    (s.falseStartOutcome o.team = match s.setup.falseStart with
      | .ignore => .falseStartIgnored
      | .lock => if s.context.lockOf o.team = none then .falseStartLocked else .falseStartAlreadyLocked
      | .penalise => if s.context.lockOf o.team = none then .falseStartPenalised else .falseStartAlreadyLocked) ∧
    (s.claimOutcome o = .falseStartLocked ∨ s.claimOutcome o = .falseStartPenalised →
      ∃ u, s.offer o =
          (if s.arbiter.queue.head?.map QueuedClaim.team = some o.team then u.testGrant else u) ∧
        u.context.lockOf o.team = some .falseStart ∧
        (∀ t, isTeamNumber t = true → t ≠ o.team → u.context.lockOf t = s.context.lockOf t) ∧
        u.consoles.lockLamps.getD (o.team - 1) .off = .on ∧
        u.context = { s.context with locks := u.context.locks } ∧ u.engine = { s.engine with round := u.engine.round } ∧
        u.consoles = { s.consoles with lockLamps := s.consoles.lockLamps.set (o.team - 1) .on } ∧
        u.pending = s.pending ∧
        u.arbiter.queue = (s.arbiter.queue.filter fun c => c.team ≠ o.team) ∧
        u.arbiter.reopen = s.arbiter.reopen ∧
        u.standings = (if s.claimOutcome o = .falseStartPenalised then
          s.standings.apply ⟨o.team, .falseStart, none, none, .by (-(s.setup.penalty.toNat : Int))⟩ else s.standings) ∧
        u.engine.state = s.engine.state ∧ u.context.holder = s.context.holder ∧
        (∃ es, es.Perm
            ((match s.arbiter.claimOf o.team with
              | some c => [⟨some s.engine.serial,
                  .claimWithdrawn c.team c.stamp c.source c.number .falseStartLock⟩]
              | none => [])
            ++ (if s.claimOutcome o = .falseStartPenalised then
              [scoreReport (some s.engine.serial)
                ⟨o.team, .falseStart, none, none, .by (-(s.setup.penalty.toNat : Int))⟩ s.standings]
              else [])) ∧
          Tells s u
            (⟨some s.engine.serial,
              .claim o.team (s.claimOutcome o) o.stamp
                (if o.stamp < 0 then Config.unstatedStamp s.free o.stamp.natAbs else 0) o.source o.arrival none none
                none⟩ :: es)) ∧
        u.context.claimsAdmitted = s.context.claimsAdmitted ∧ u.list = s.list ∧ u.intake = s.intake ∧
        u.answers = s.answers ∧ u.board = s.board)

/-- R26, R73, R100 to R103: where the clock has reached the settle deadline of a round in SETTLING and the intake holds no
entry of the round that arrived by it, the head is granted the floor; with the queue empty, the round closes TIMED OUT.
Otherwise nothing changes. A deadline above the clock's maximum counts as reached when the clock holds. (That the two rows
have no effect where their moment is not there is the model's; log 1.) -/
def Obligations.TheFloorIsGrantedAtTheDeadline : Prop :=
  (∀ s : State, exec .settleDeadlineReached s = .next s.testGrant) ∧
  (∀ (s : State) (d : Nat), s.intakeHolds d = true ↔
    ∃ e ∈ s.intake.fifo, e.serial = s.engine.serial ∧ ∃ a, e.arrival = some a ∧ a ≤ d) ∧
  (∀ s : State, s.engine.state ≠ .settling →
    exec .settleDeadlineReached s = .next s ∧ exec .roundClockHold s = .next s) ∧
  (∀ s : State, s.engine.clock ≠ 1048575 → exec .roundClockHold s = .next s) ∧
  ∀ (s : State) (i : Instr), i = .settleDeadlineReached ∨ (i = .roundClockHold ∧ s.engine.clock = 1048575) →
    s.engine.state = .settling → s.context.kind = .buzz → s.context.holder = none → s.engine.round.isSome = true →
    s.consoles.floorLamps.length = 24 → s.list.slots.length = 128 → s.engine.clock ≤ 1048575 →
    (∀ c rest d, s.arbiter.queue = c :: rest → d = c.stamp + s.setup.settleWindow.toNat → isTeamNumber c.team = true →
      (d ≤ s.engine.clock ∨ s.engine.clock = 1048575 → s.intakeHolds d = false →
        ∃ t, exec i s = .next t ∧ t.engine.state = .floor ∧
          t.context =
            { s.context with
              holder := some ⟨c.team, c.stamp, c.source, c.number⟩
              grantCount := s.context.grantCount + 1
              answerLeft := some (s.setup.answerWindow.toNat * 1000) } ∧
          t.engine.clock = s.engine.clock ∧ t.arbiter = ⟨rest, s.arbiter.reopen⟩ ∧
          t.engine = { s.engine with state := .floor, round := t.engine.round } ∧
          t.consoles =
            { s.consoles with
              floorLamps := s.consoles.floorLamps.set (c.team - 1)
                (if s.setup.answerWindow.toNat ≤ 5 then .blink else .on) } ∧
          t.answers = s.answers ∧ t.free = s.free ∧ t.pending = s.pending ∧
          t.consoles.floorLamps.getD (c.team - 1) .off =
            (if s.setup.answerWindow.toNat ≤ 5 then .blink else .on) ∧
          t.consoles.lockLamps = s.consoles.lockLamps ∧
          t.link = s.link.note
            ⟨some s.engine.serial, .floorGranted c.team c.stamp c.source c.number (s.context.grantCount + 1)
              s.setup.answerWindow.toNat rest.length⟩ ∧
          t.list = s.list ∧ t.standings = s.standings ∧ t.intake = s.intake ∧ t.board = s.board) ∧
      ((s.engine.clock < d ∧ s.engine.clock < 1048575) ∨ s.intakeHolds d = true → exec i s = .next s)) ∧
    (s.arbiter.queue = [] →
      (s.context.timeCalled = false → exec i s = .next s) ∧
      (∀ e d, s.context.timeCalled = true → s.context.expiryStamp = some e →
        d = e + s.setup.settleWindow.toNat →
        (d ≤ s.engine.clock ∨ s.engine.clock = 1048575 → s.intakeHolds d = false →
          ∃ t, exec i s = .next t ∧ (t.slotAt s.context.slot).result = s.resultOf .timedOut none ∧ t.live = false ∧
            t.standings = s.standings ∧ t.answers = s.answers ∧ t.board = s.board ∧ Closes s t .timedOut none ∧
            Tells s t [closeReport s .timedOut none, walkReport s]) ∧
        ((s.engine.clock < d ∧ s.engine.clock < 1048575) ∨ s.intakeHolds d = true → exec i s = .next s)))

/-- R32, R37, R103: the round timer at 0 of a BUZZ round in OPEN or SETTLING calls time: expiry_stamp is the clock, claims
stamped at or after it are withdrawn, the engine is SETTLING, and the grant condition is tested. TIMER EXPIRED is told, then
WITHDRAWN of each. Otherwise the row has no effect. (That it has none, the last second 0, and the queue order of the
withdrawals are the model's; log 1, log 24, log 41.) -/
def Obligations.TimeIsCalled : Prop :=
  ∀ s : State, s.context.kind = .buzz → s.engine.round.isSome = true →
    (s.engine.state = .opened ∨ (s.engine.state = .settling ∧ s.context.timeCalled = false) →
      s.context.roundLeft = some 0 →
      ∃ u : State, exec .roundTimerExpiry s = .next u.testGrant ∧ u.engine.state = .settling ∧
        u.context =
          { s.context with timeCalled := true, expiryStamp := some s.engine.clock, lastSecond := some 0 } ∧
        u.engine = { s.engine with state := .settling, round := u.engine.round } ∧
        u.free = s.free ∧ u.pending = s.pending ∧
        u.arbiter.queue = (s.arbiter.queue.filter fun c => c.stamp < s.engine.clock) ∧
        u.arbiter.reopen = s.arbiter.reopen ∧ u.engine.clock = s.engine.clock ∧ u.engine.serial = s.engine.serial ∧
        u.engine.tieStart = s.engine.tieStart ∧ u.list = s.list ∧ u.consoles = s.consoles ∧ u.intake = s.intake ∧
        u.standings = s.standings ∧ u.answers = s.answers ∧ u.board = s.board ∧
        Tells s u
          (⟨some s.engine.serial, .timerExpired .round (some s.engine.clock) none⟩ ::
            (s.arbiter.queue.filter fun c => s.engine.clock ≤ c.stamp).map fun c =>
              ⟨some s.engine.serial, .claimWithdrawn c.team c.stamp c.source c.number .late⟩)) ∧
    (s.engine.state ∉ [.opened, .settling] ∨ s.context.roundLeft ≠ some 0 ∨
        (s.engine.state = .settling ∧ s.context.timeCalled = true) →
      exec .roundTimerExpiry s = .next s)

/-- R38, R105, R142, R172: JUDGE RIGHT asks for the award, from the holder's stamp, open_time and the streak before, and
closes the round WON with the holder as winner, whose panel begins its blink unless it is held. VERDICT, the SCORE event of the
award, ROUND CLOSED and the LIST event of the walk are told in this order, with their values. (That the reply carries the
state and 0xFF, and nothing of the team, is the model's; log 15, log 32. So is the mark that a blink has begun; log 5.) -/
def Obligations.RightVerdictsWinTheRound : Prop :=
  ∀ (h : Holder) (s : State), s.waitingCommand = some (.judge 0) → s.engine.state = .floor →
    s.context.holder = some h → s.engine.round.isSome = true → s.list.slots.length = 128 →
    s.board.panels.length = 25 → isTeamNumber h.team = true →
    ∃ t u w q, t = u.board ∧ Replies (.judge 0) s u .done [u.engine.state.code, 0xFF] ∧ u.live = false ∧
      w = awardPoints s.setup h.stamp (s.context.openTime.getD 0) (s.standings.teamAt h.team).streak ∧
      q = ⟨h.team, .verdict, some .right, some (w : Nat), .by (w : Nat)⟩ ∧ u.standings = s.standings.apply q ∧
      Tells s u
        [⟨some s.engine.serial, .verdictGiven h.team .right h.stamp s.context.wrongCount .closeWon⟩,
          scoreReport (some s.engine.serial) q s.standings, closeReport s .won (some h.team), walkReport s] ∧
      Closes s u .won (some h.team) ∧ u.board = { s.board with panels := u.board.panels } ∧
      (u.slotAt s.context.slot).result = s.resultOf .won (some h.team) ∧
      (u.slotAt s.context.slot).owner = .edit ∧ u.context.holder = none ∧ u.context.answerLeft = none ∧
      u.arbiter = ⟨[], none⟩ ∧ u.engine.clock = s.engine.clock ∧ u.consoles.floorLamps = List.replicate 24 .off ∧
      t.panelAt h.team =
        (if (s.board.panelAt h.team).held then s.board.panelAt h.team
        else { s.board.panelAt h.team with blinkLeft := 3000, blinkOpen := true }) ∧
      (∀ a, a ≠ h.team → t.panelAt a = s.board.panelAt a) ∧ u.intake = s.intake ∧ u.answers = s.answers

/-- R35, R38, R39, R106 to R109: JUDGE WRONG, and the answer timer at 0 (a TIMEOUT), lock the team and count a wrong
answer, and ask for a score change of −Q unless a TIMEOUT does not count wrong. Then the round closes NO WINNER at the
wrong limit or with every team in play locked, or it rebounds in its mode; a REOPEN rebound withdraws every claim.
VERDICT with what follows is told, then the SCORE event, both after the TIMER EXPIRED of a TIMEOUT. (That the reply
carries the state and 0xFF, and nothing of the team, is the model's; log 15, log 32. So is that the row of the answer
timer has no effect before 0; log 1.) -/
def Obligations.WrongVerdictsLockAndRebound : Prop :=
  ∀ (h : Holder) (s : State), s.engine.state = .floor → s.engine.remembered = none → s.context.holder = some h →
    isTeamNumber h.team = true → s.engine.round.isSome = true → s.context.locks.length = 24 →
    s.consoles.lockLamps.length = 24 → s.consoles.floorLamps.length = 24 →
    (s.waitingCommand = some (.judge 1) →
      ∃ u t, WrongVerdict s u h .wrong ∧ Rebounds s u t ∧ Replies (.judge 1) s t .done [t.engine.state.code, 0xFF]) ∧
    (s.context.answerLeft = some 0 →
      ∃ u t, WrongVerdict (s.raise (.timerExpired .answer none (some h.team))) u h .timeout ∧ Rebounds s u t ∧
        exec .answerTimerExpiry s = .next t) ∧
    (s.context.answerLeft ≠ some 0 → exec .answerTimerExpiry s = .next s)

/-! ### Console lines, the Handset Intake and the roster -/

/-- R52 to R59, R65: each row of a console line acts on the run that the line shows, once it has held for the filter time,
and a press accepted in a live BUZZ round from a run of that round is offered as a claim with the run's first clock. The
lamp blink timer reloads at 0 and changes the phase. (Three things are the model's: the values of a run wait in newRun until
LINE_RUN_START; log 4. The blink timer is reloaded by its own row; log 37. A row whose moment is not there has no effect;
log 1.) -/
def Obligations.LinesFollowTheirRuns : Prop :=
  (∀ (n : Nat) (s : State) (r : LineRecord), isTeamNumber n = true → r = s.lineAt n →
    (∀ x, r.newRun = some x →
      exec (.lineRunStart n) s = .next (s.setLineAt n { r with runStart := some x, newRun := none })) ∧
    (r.state = .waitRelease → r.level = .released → r.filter + 1 ≤ r.runLength →
      exec (.lineReady n) s = .next (s.setLineAt n { r with state := .ready })) ∧
    (r.state = .ready → r.level = .pressed → r.filter + 1 ≤ r.runLength →
      ∃ u, u = s.setLineAt n { r with state := .pressed, count := 0 } ∧
        (s.live = false ∨ s.context.kind ≠ .buzz → exec (.linePressAccepted n) s = .next u) ∧
        (∀ x, r.newRun.or r.runStart = some x →
          (x.live = false ∨ x.serial ≠ s.engine.serial → exec (.linePressAccepted n) s = .next u) ∧
          (s.live = true → s.context.kind = .buzz → x.live = true → x.serial = s.engine.serial →
            exec (.linePressAccepted n) s = .next
              (u.offer ⟨n, x.clock, .console n, none, s.engine.state = .paused || x.paused⟩)))) ∧
    (r.state = .pressed → r.level = .released → r.filter + 1 ≤ r.runLength →
      exec (.lineReleaseAccepted n) s = .next (s.setLineAt n { r with state := .ready })) ∧
    (r.state = .pressed ∨ r.state = .waitRelease → 5000 ≤ r.count →
      exec (.stuck n) s = .next ((s.setLineAt n { r with state := .stuck }).raise (.lineStuck n r.state))) ∧
    (r.state = .stuck → r.level = .released → r.filter + 1 ≤ r.runLength →
      exec (.cleared n) s = .next ((s.setLineAt n { r with state := .ready }).raise (.lineCleared n r.count))) ∧
    (r.runLength ≤ r.filter →
      exec (.lineReady n) s = .next s ∧ exec (.linePressAccepted n) s = .next s ∧
        exec (.lineReleaseAccepted n) s = .next s ∧ exec (.cleared n) s = .next s)) ∧
  (∀ s : State,
    (s.consoles.blinkLeft = 0 → exec .lampBlinkTimerExpiry s = .next
      (s.setConsoles
        { s.consoles with blinkLeft := 250, phase := if s.consoles.phase = .lit then .dark else .lit })) ∧
    (s.consoles.blinkLeft ≠ 0 → exec .lampBlinkTimerExpiry s = .next s))

/-- R61, R62, R71: SET LINE and SET RECEIVER store settings that are in range, whatever the engine state; READ LINE and
READ RECEIVER return a record and change nothing. (What of its old run a line keeps until its next sample, and its level until
then, are the model's; log 23, log 40.) -/
def Obligations.LineAndReceiverCommands : Prop :=
  (∀ (line enabled polarity filter : Byte) (s : State),
    s.waitingCommand = some (.setLine line enabled polarity filter) →
    (line = 0 ∨ 24 < line.toNat ∨ 1 < enabled.toNat ∨ 1 < polarity.toNat ∨ filter ∉ [0, 2, 5, 10] →
      Replies (.setLine line enabled polarity filter) s s .outOfRange []) ∧
    (line ≠ 0 → line.toNat ≤ 24 → polarity.toNat ≤ 1 → filter ∈ [0, 2, 5, 10] →
      ∃ p : Polarity, p = (if polarity = 0 then .low else .high) ∧
        (enabled = 1 → Replies (.setLine line enabled polarity filter) s
          (s.setLineAt line.toNat
            ⟨true, p, filter.toNat, .waitRelease, (s.lineAt line.toNat).level, none, 0, 0, true, none⟩)
          .done [line, 1]) ∧
        (enabled = 0 → Replies (.setLine line enabled polarity filter) s
          (s.setLineAt line.toNat ⟨false, p, filter.toNat, .disabled, .released, none, 0, 0, true, none⟩)
          .done [line, 0]))) ∧
  (∀ (line : Byte) (s : State), s.waitingCommand = some (.readLine line) →
    (line = 0 ∨ 24 < line.toNat → Replies (.readLine line) s s .outOfRange []) ∧
    (∀ r, r = s.lineAt line.toNat → line ≠ 0 → line.toNat ≤ 24 → r.state ≠ .disabled →
      Replies (.readLine line) s s .done
        ([if r.enabled then 1 else 0, r.polarity.code, BitVec.ofNat 8 r.filter, r.state.code, r.level.code]
          ++ bytesOf 2 r.count
          ++ [(s.consoles.floorLamps.getD (line.toNat - 1) .off).code,
              (s.consoles.lockLamps.getD (line.toNat - 1) .off).code])) ∧
    (∀ r, r = s.lineAt line.toNat → line ≠ 0 → line.toNat ≤ 24 → r.state = .disabled →
      Replies (.readLine line) s s .done
        ([if r.enabled then 1 else 0, r.polarity.code, BitVec.ofNat 8 r.filter, 0, 0] ++ bytesOf 2 r.count
          ++ [(s.consoles.floorLamps.getD (line.toNat - 1) .off).code,
              (s.consoles.lockLamps.getD (line.toNat - 1) .off).code]))) ∧
  (∀ (r enabled offset : Byte) (s : State), s.waitingCommand = some (.setReceiver r enabled offset) →
    (3 < r.toNat ∨ 1 < enabled.toNat → Replies (.setReceiver r enabled offset) s s .outOfRange []) ∧
    (r.toNat ≤ 3 → enabled.toNat ≤ 1 →
      Replies (.setReceiver r enabled offset) s
        (s.setReceiverAt r.toNat
          { s.receiverAt r.toNat with enabled := enabled = 1, offset := min 63 offset.toNat })
        .done [r, BitVec.ofNat 8 (min 63 offset.toNat)])) ∧
  (∀ (r : Byte) (s : State), s.waitingCommand = some (.readReceiver r) →
    (3 < r.toNat → Replies (.readReceiver r) s s .outOfRange []) ∧
    (r.toNat ≤ 3 → Replies (.readReceiver r) s s .done
      ([if (s.receiverAt r.toNat).enabled then 1 else 0, BitVec.ofNat 8 (s.receiverAt r.toNat).offset]
        ++ bytesOf 2 (s.receiverAt r.toNat).accepted ++ bytesOf 2 (s.receiverAt r.toNat).refused)))

/-- R74: READ INTAKE returns the state of the intake and changes nothing, in every engine state; the three drop counts are
held at 65,535. -/
def Obligations.ReadIntakeReturnsTheState : Prop :=
  (∀ s : State, s.waitingCommand = some .readIntake →
    Replies .readIntake s s .done
      ([BitVec.ofNat 8 s.intake.fifo.length, if s.intake.taking then 1 else 0, if s.intake.overrun then 1 else 0]
        ++ bytesOf 2 s.intake.repeats ++ bytesOf 2 s.intake.outside ++ bytesOf 2 s.intake.stale)) ∧
  ∀ s t : State, s.intake.fifo.length ≤ 32 → s.intake.repeats ≤ 65535 → s.intake.outside ≤ 65535 →
    s.intake.stale ≤ 65535 → step s = .next t →
      t.intake.fifo.length ≤ 32 ∧ t.intake.repeats ≤ 65535 ∧ t.intake.outside ≤ 65535 ∧ t.intake.stale ≤ 65535

/-- R69 to R72: the eight bytes of a pad frame, arriving at a waiting port, are discarded with a BAD FRAME event at the
first failing check, or make a FIFO entry with the serial, the paused mark and the clock of that moment; a good frame for a
full FIFO is dropped, and only the first such drop is told. A byte outside a frame is passed over unless it is the sync
byte; a gap of more than 1 ms makes a runt. (Two things are the model's: PAD_FRAME_ARRIVAL brings the bytes of its frame;
log 28. The gap is measured in ticks, PAD_RUNT may come from 1 tick on, and at exactly 1 a byte is still taken; log 6.) -/
def Obligations.PadFramesArriveOrAreDiscarded : Prop :=
  (∀ (f : PadFrame) (s u : State), s.intake.port = none →
    u = s.setIntake { s.intake with port := none, portGap := 0 } →
    (∀ x, u.padFault f = some x → exec (.padFrameArrival f) s = .next
      (if f.receiver.toNat ≤ 3 then
        (u.setReceiverAt f.receiver.toNat
          { s.receiverAt f.receiver.toNat with refused := min 65535 ((s.receiverAt f.receiver.toNat).refused + 1) }).raise
          (.badFrame x (some f.receiver.toNat))
      else u.raise (.badFrame x none))) ∧
    (∀ r k, u.padFault f = none → r = f.receiver.toNat → PadKey.ofCode f.key = some k →
      (s.intake.fifo.length < 32 → ∃ t, exec (.padFrameArrival f) s = .next t ∧
        t.intake.fifo = s.intake.fifo ++
          [⟨r, f.handset, k, f.sequence.toNat % 16, f.sequence.getLsbD 7, f.age.toNat, s.engine.serial,
            s.engine.state = .paused, if s.live then some s.engine.clock else none⟩] ∧
        t.intake.taking = true ∧ t.intake.overrun = s.intake.overrun ∧
        (t.receiverAt r).accepted = min 65535 ((s.receiverAt r).accepted + 1) ∧
        t = s.setIntake
          { s.intake with
            port := none, portGap := 0, fifo := t.intake.fifo, taking := true
            receivers := s.intake.receivers.set r
              { s.receiverAt r with accepted := min 65535 ((s.receiverAt r).accepted + 1) } } ∧
        t.intake.roster = s.intake.roster ∧ t.link = s.link ∧ t.engine = s.engine ∧ t.arbiter = s.arbiter) ∧
      (32 ≤ s.intake.fifo.length → ∃ t, exec (.padFrameArrival f) s = .next t ∧
        t.intake.fifo = s.intake.fifo ∧ t.intake.overrun = true ∧
        (t.receiverAt r).refused = min 65535 ((s.receiverAt r).refused + 1) ∧
        t = (s.setIntake
          { s.intake with
            port := none, portGap := 0, overrun := true
            receivers := s.intake.receivers.set r
              { s.receiverAt r with refused := min 65535 ((s.receiverAt r).refused + 1) } }).setLink t.link ∧
        t.link = (if s.intake.overrun then s.link else s.link.note ⟨none, .overrun r⟩)))) ∧
  (∀ (f : PadFrame) (s : State),
    s.padFault f =
      if f.check ≠ f.receiver ^^^ BitVec.ofNat 8 (f.handset.toNat / 256) ^^^ BitVec.ofNat 8 f.handset.toNat ^^^ f.key ^^^
          f.sequence ^^^ f.age then some .check
      else if 3 < f.receiver.toNat ∨ (s.receiverAt f.receiver.toNat).enabled = false then some .receiver
      else if f.handset = 0 ∨ f.handset = 65535 then some .handsetId
      else if f.key = 0 ∨ 8 < f.key.toNat then some .key
      else none) ∧
  (∀ (b : Byte) (s : State), s.intake.port = none →
    exec (.padByteReceived b) s = .next
      (if b = 0xB4 then s.setIntake { s.intake with port := some [], portGap := 0 } else s)) ∧
  (∀ (b : Byte) (p : List Byte) (s : State), s.intake.port = some p →
    (s.intake.portGap ≤ 1 → p.length < 6 →
      exec (.padByteReceived b) s = .next (s.setIntake { s.intake with port := some (p ++ [b]), portGap := 0 })) ∧
    (1 < s.intake.portGap → ∃ t u, exec .padRunt s = .next t ∧ exec (.padByteReceived b) s = .next u ∧
      u = if b = 0xB4 then t.setIntake { t.intake with port := some [], portGap := 0 } else t)) ∧
  (∀ (p : List Byte) (s u : State), s.intake.port = some p →
    u = s.setIntake { s.intake with port := none, portGap := 0 } →
    (1 ≤ s.intake.portGap →
      (p = [] → exec .padRunt s = .next (u.raise (.badFrame .runt none))) ∧
      (∀ x q, p = x :: q → x.toNat ≤ 3 → exec .padRunt s = .next
        ((u.setReceiverAt x.toNat
          { s.receiverAt x.toNat with refused := min 65535 ((s.receiverAt x.toNat).refused + 1) }).raise
          (.badFrame .runt (some x.toNat)))) ∧
      (∀ x q, p = x :: q → 3 < x.toNat → exec .padRunt s = .next (u.raise (.badFrame .runt none)))))

/-- R75, R76, R79 to R84: TAKE_COMPLETE handles the front entry, which then leaves the FIFO, and tells the arbiter and the
engine. An unknown handset, a repeat, a HELLO, a key outside the round and a stale key go no further; any other key is
offered as a claim, or handed to the collector. A roster handset whose entry goes on has its roster entry brought up to date
first, and the PRESENT and battery events are told, in that order (the model's; log 35). -/
def Obligations.TakesHandleTheFrontEntry : Prop :=
  (∀ (x : Intake) (h : BitVec 16),
    (x.positionOf h = none ↔ ∀ r, some r ∈ x.roster → r.handset ≠ h) ∧
    ∀ p, x.positionOf h = some p → ∃ r, x.rosterAt p = some r ∧ x.roster[p]? = some (some r) ∧ r.handset = h) ∧
  ∀ (e : FifoEntry) (rest : List FifoEntry) (s : State), s.intake.fifo = e :: rest → s.intake.taking = true →
    (∃ u v, u = s.handle e ∧
      v = u.setIntake
        { u.intake with
          fifo := u.intake.fifo.tail
          taking := u.intake.fifo.tail ≠ []
          overrun := u.intake.overrun && u.intake.fifo.tail ≠ [] } ∧
      u.intake.fifo = e :: rest ∧ exec .takeComplete s = .next v.testGrant.testTally) ∧
    (s.intake.positionOf e.handset = none → guestSet s.intake.guestMap (guestIndex e.handset) = false →
      s.handle e = s.raise (.unknownHandset e.handset e.receiver)) ∧
    (s.intake.positionOf e.handset = none → guestSet s.intake.guestMap (guestIndex e.handset) = true →
      s.handle e = s.handleKey e none none) ∧
    (∀ p r, s.intake.positionOf e.handset = some p → s.intake.rosterAt p = some r →
      (r.lastSequence = some e.sequence → r.lastSerial = some e.serial →
        (∀ a c, e.key = .buzz → e.arrival = some a → s.arbiter.claimOf r.team = some c →
          (c.stamp : Int) ≤ (a : Int) - e.age - (s.receiverAt e.receiver).offset) →
        s.handle e = s.setIntake { s.intake with repeats := min 65535 (s.intake.repeats + 1) }) ∧
      (r.lastSequence ≠ some e.sequence ∨ r.lastSerial ≠ some e.serial ∨
          (∃ a c, e.key = .buzz ∧ e.arrival = some a ∧ s.arbiter.claimOf r.team = some c ∧
            (a : Int) - e.age - (s.receiverAt e.receiver).offset < c.stamp) →
        s.handle e =
          ((s.setIntake
              { s.intake with
                roster := s.intake.roster.set p
                  (some ⟨r.handset, r.team, r.seat, some e.sequence, some e.serial, true, e.batteryLow⟩) }).raiseAll
            ((if r.present = true then [] else [.handsetPresent r.handset r.team r.seat])
              ++ (if r.batteryLow = false ∧ e.batteryLow = true then [.batteryLow r.handset r.team r.seat]
                else if r.batteryLow = true ∧ e.batteryLow = false then [.batteryOk r.handset r.team r.seat]
                else []))).handleKey e (some p) (some r.team))) ∧
    (∀ (u : State) (p t : Option Nat),
      (e.key = .hello → u.handleKey e p t = u) ∧
      (e.key ≠ .hello → u.live = false ∨ e.arrival = none ∨ e.serial ≠ u.engine.serial →
        u.handleKey e p t = u.setIntake { u.intake with outside := min 65535 (u.intake.outside + 1) }) ∧
      (∀ a x, e.key ≠ .hello → u.live = true → e.arrival = some a → e.serial = u.engine.serial →
        x = (a : Int) - e.age - (u.receiverAt e.receiver).offset →
        (e.paused = false → x < 0 →
          u.handleKey e p t = u.setIntake { u.intake with stale := min 65535 (u.intake.stale + 1) }) ∧
        (e.paused = true ∨ 0 ≤ x →
          (∀ k, e.key = .option k → u.handleKey e p t = u.answer ⟨e.handset, p, t, k, x, a, e.paused⟩) ∧
          (∀ n, e.key = .buzz → t = some n → isTeamNumber n = true → u.context.kind = .buzz →
            u.handleKey e p t = u.offer ⟨n, x, .handset e.handset e.receiver, some a, e.paused⟩) ∧
          (e.key = .buzz → u.context.kind ≠ .buzz ∨ t = none ∨ t = some 0 → u.handleKey e p t = u))))

/-- R77: the index of a handset id in the guest map. -/
def Obligations.GuestIndexOfAnId : Prop :=
  (∀ h : BitVec 16, guestIndex h = h.toNat * 40503 % 65536 / 1024 ∧ guestIndex h < 64) ∧
  guestIndex 1234 = 41 ∧ guestIndex 1 = 39 ∧ guestIndex 2 = 15 ∧ guestIndex 65534 = 48 ∧
  ∀ (s : State) (e : FifoEntry), s.intake.positionOf e.handset = none →
    (guestSet s.intake.guestMap (guestIndex e.handset) = true → s.handle e = s.handleKey e none none) ∧
    (guestSet s.intake.guestMap (guestIndex e.handset) = false →
      s.handle e = s.raise (.unknownHandset e.handset e.receiver))

/-- R86 to R89: the roster edits and the guest map, refused WRONG STATE while a round is live, and the reads of both, which
return the values of the entry (the forms of these, and of a free position, are the model's; log 17). -/
def Obligations.RosterAndGuestMapCommands : Prop :=
  (∀ (h : BitVec 16) (team seat : Byte) (s : State), s.waitingCommand = some (.enroll h team seat) →
    (s.live = true → Replies (.enroll h team seat) s s .wrongState []) ∧
    (s.live = false → h = 0 ∨ h = 65535 ∨ 24 < team.toNat → Replies (.enroll h team seat) s s .outOfRange []) ∧
    (s.live = false → h ≠ 0 → h ≠ 65535 → team.toNat ≤ 24 →
      (s.intake.positionOf h ≠ none → Replies (.enroll h team seat) s s .duplicate []) ∧
      (s.intake.positionOf h = none → (∀ r ∈ s.intake.roster, r ≠ none) →
        Replies (.enroll h team seat) s s .tableFull []) ∧
      (∀ p, s.intake.positionOf h = none → s.intake.roster[p]? = some none →
        (∀ q, q < p → s.intake.roster[q]? ≠ some none) →
        Replies (.enroll h team seat) s
          (s.setIntake
            { s.intake with
              roster := s.intake.roster.set p (some ⟨h, team.toNat, seat.toNat, none, none, false, false⟩) })
          .done [BitVec.ofNat 8 p]))) ∧
  (∀ (h : BitVec 16) (s : State), s.waitingCommand = some (.withdraw h) →
    (s.live = true → Replies (.withdraw h) s s .wrongState []) ∧
    (s.live = false → h = 0 ∨ h = 65535 → Replies (.withdraw h) s s .outOfRange []) ∧
    (s.live = false → h ≠ 0 → h ≠ 65535 → s.intake.positionOf h = none → Replies (.withdraw h) s s .notFound []) ∧
    (∀ p, s.live = false → h ≠ 0 → h ≠ 65535 → s.intake.positionOf h = some p →
      Replies (.withdraw h) s (s.setIntake { s.intake with roster := s.intake.roster.set p none }) .done [])) ∧
  (∀ (h : BitVec 16) (team seat : Byte) (s : State), s.waitingCommand = some (.move h team seat) →
    (s.live = true → Replies (.move h team seat) s s .wrongState []) ∧
    (s.live = false → h = 0 ∨ h = 65535 ∨ 24 < team.toNat → Replies (.move h team seat) s s .outOfRange []) ∧
    (s.live = false → h ≠ 0 → h ≠ 65535 → team.toNat ≤ 24 →
      (s.intake.positionOf h = none → Replies (.move h team seat) s s .notFound []) ∧
      (∀ p r, s.intake.positionOf h = some p → s.intake.roster[p]? = some (some r) →
        Replies (.move h team seat) s
          (s.setIntake
            { s.intake with
              roster := s.intake.roster.set p (some { r with team := team.toNat, seat := seat.toNat }) })
          .done []))) ∧
  (∀ s : State, s.waitingCommand = some .clearRoster →
    (s.live = true → Replies .clearRoster s s .wrongState []) ∧
    (s.live = false → Replies .clearRoster s
      (s.setIntake { s.intake with roster := List.replicate s.intake.roster.length none }) .done [])) ∧
  (∀ (m : BitVec 64) (s : State), s.waitingCommand = some (.setGuestMap m) →
    (s.live = true → Replies (.setGuestMap m) s s .wrongState []) ∧
    (s.live = false → Replies (.setGuestMap m) s (s.setIntake { s.intake with guestMap := m }) .done [])) ∧
  (∀ s : State, s.waitingCommand = some .readGuestMap →
    Replies .readGuestMap s s .done (bytesOf 8 s.intake.guestMap.toNat)) ∧
  (∀ (h : BitVec 16) (s : State), s.waitingCommand = some (.readHandset h) →
    (s.intake.positionOf h = none → Replies (.readHandset h) s s .notFound []) ∧
    (∀ p r, s.intake.positionOf h = some p → s.intake.rosterAt p = some r →
      Replies (.readHandset h) s s .done (rosterReply p r))) ∧
  (∀ (p : Byte) (s : State), s.waitingCommand = some (.readRoster p) →
    (191 < p.toNat → Replies (.readRoster p) s s .outOfRange []) ∧
    (p.toNat ≤ 191 →
      (∀ r, s.intake.rosterAt p.toNat = some r → Replies (.readRoster p) s s .done (rosterReply p.toNat r)) ∧
      (s.intake.rosterAt p.toNat = none → Replies (.readRoster p) s s .done (p :: List.replicate 6 0xFF))))

/-! ### The Standings Unit and the house cup -/

/-- R127: the share of a team. -/
def Obligations.ShareOfATeam : Prop :=
  (∀ p c m : Nat, 1 ≤ m → c ≤ m →
    shareOf p c m = (p * c * 2 + m) / (2 * m) ∧
    2 * m * shareOf p c m ≤ 2 * (p * c) + m ∧ 2 * (p * c) + m < 2 * m * (shareOf p c m + 1) ∧
    shareOf p c m ≤ p ∧ (c = 0 → shareOf p c m = 0) ∧ (c = m → shareOf p c m = p) ∧
    (p ≤ 500 → m ≤ 192 → p * c * 2 + m ≤ 192192)) ∧
  shareOf 60 3 5 = 36 ∧ shareOf 50 2 3 = 33 ∧ shareOf 25 1 2 = 13 ∧ shareOf 100 5 7 = 71 ∧ shareOf 40 0 6 = 0 ∧
  ∀ (y : Tally) (x : Collector) (p t : Nat) (k : OptKey), isTeamNumber t = true → 0 < y.membersOf t →
    (y.keyed x p k).shareAt t = some (shareOf p (x.teamRight t k) (y.membersOf t))

/-- R137 to R140: what a score change request does to the score, the clamp mark, the change counter, the change sequence,
the streaks and the counts. The rest of the unit stays. -/
def Obligations.ScoreChangesFollowTheRequest : Prop :=
  ∀ (x y : Standings) (q : ScoreRequest) (r u : TeamRecord) (w : Int), x.teams.length = 24 →
    isTeamNumber q.team = true → y = x.apply q → r = x.teamAt q.team → u = y.teamAt q.team →
    w = (match q.move with | .by d => r.score + d | .target z => z) →
    u.score = max (-999) (min 9999 w) ∧ (u.clamped = true ↔ w < -999 ∨ 9999 < w) ∧
    q.applied x = u.score - r.score ∧
    (u.score = r.score → y.counter = x.counter ∧ u.sequence = r.sequence) ∧
    (u.score ≠ r.score → y.counter = min 16777215 (x.counter + 1) ∧ u.sequence = y.counter) ∧
    (q.source = .verdict → q.verdict = some .right →
      u.streak = min (r.streak + 1) 9 ∧ u.correct = min 255 (r.correct + 1) ∧ u.wrong = r.wrong) ∧
    (q.source = .verdict → q.verdict = some .wrong ∨ q.verdict = some .timeout →
      u.streak = 0 ∧ u.correct = r.correct ∧ u.wrong = min 255 (r.wrong + 1)) ∧
    (q.source = .falseStart → q.verdict = none → u.streak = 0 ∧ u.correct = r.correct ∧ u.wrong = r.wrong) ∧
    (q.source = .share ∨ q.source = .adjust ∨ q.source = .set → q.verdict = none →
      u.streak = r.streak ∧ u.correct = r.correct ∧ u.wrong = r.wrong) ∧
    u.playing = r.playing ∧ u.name = r.name ∧ u.house = r.house ∧
    (∀ t, isTeamNumber t = true → t ≠ q.team →
      y.teamAt t = if q.verdict = some .right then { x.teamAt t with streak := 0 } else x.teamAt t) ∧
    y.frozen = x.frozen ∧ y.tie = x.tie ∧ y.houses = x.houses ∧ y.placePoints = x.placePoints

/-- R142: the award of a RIGHT verdict, worked out from the floor stamp, open_time, the descriptor and the streak before
the request; its bounds; and that it is the request's delta. -/
def Obligations.AwardOfARightVerdict : Prop :=
  ∀ (d : Descriptor) (x : Standings) (team f o streak t w b : Nat), o ≤ f → t = f - o →
    w = d.bonusWindow.toNat * 100 → streak = (x.teamAt team).streak →
    b = (if w = 0 ∨ w ≤ t then 0 else d.bonusMax.toNat * (w - t) / w) →
    awardPoints d f o streak =
      (if d.streakScoring then (d.basePoints.toNat + b) * (10 + min streak 5) / 10 else d.basePoints.toNat + b) ∧
    rightRequest d x team f o =
      ⟨team, .verdict, some .right, some (awardPoints d f o streak : Nat), .by (awardPoints d f o streak : Nat)⟩ ∧
    b ≤ d.bonusMax.toNat ∧ (0 < w → 0 < d.bonusMax.toNat → (b = d.bonusMax.toNat ↔ t = 0)) ∧
    (d.basePoints.toNat ≤ 500 → d.bonusMax.toNat ≤ 250 → d.bonusWindow.toNat ≤ 300 →
      d.basePoints.toNat + b ≤ 750 ∧ awardPoints d f o streak ≤ 1125 ∧
        d.bonusMax.toNat * (w - t) ≤ 7500000)

/-- R145 to R147: the positions of the playing teams are the numbers 1 to n, each once, in the order of score, correct
count, change sequence and team number; a team that is not playing has neither position nor shown rank. (That they are
computed from the records as they stand is the model's; log 13.) -/
def Obligations.PositionsAreEachOnce : Prop :=
  ∀ x : Standings,
    (∀ t, isTeamNumber t = true → (x.position t = none ↔ (x.teamAt t).playing = false) ∧
      (x.rank t = none ↔ (x.teamAt t).playing = false)) ∧
    (∀ p, 1 ≤ p ∧ p ≤ x.playingCount ↔ ∃ t, isTeamNumber t = true ∧ x.position t = some p) ∧
    (∀ t u p, isTeamNumber t = true → isTeamNumber u = true → x.position t = some p → x.position u = some p → t = u) ∧
    (∀ t u p q a b, a = x.teamAt t → b = x.teamAt u → x.position t = some p → x.position u = some q → p < q →
      b.score < a.score ∨ a.score = b.score ∧ (b.correct < a.correct ∨ a.correct = b.correct ∧
        (a.sequence < b.sequence ∨ a.sequence = b.sequence ∧ t < u))) ∧
    (x.tie = .strict → ∀ t, x.rank t = x.position t) ∧
    (x.tie = .shared → ∀ t p, x.position t = some p →
      x.rank t = some (1 + ((List.range 24).countP fun i =>
        (x.teamAt (i + 1)).playing && (x.teamAt t).score < (x.teamAt (i + 1)).score)))

/-- R134 to R136, R147 to R150, R152: SET TEAM, ADJUST SCORE, SET SCORE, SET TIE DISPLAY, FREEZE and UNFREEZE, each with the
event it tells. -/
def Obligations.StandingsCommands : Prop :=
  (∀ (team len playing house : Byte) (name : List Byte) (s : State),
    s.waitingCommand = some (.setTeam team len name playing house) → name.length = 10 →
    (s.standings.frozen = true → Replies (.setTeam team len name playing house) s s .frozen []) ∧
    (s.standings.frozen = false →
      team = 0 ∨ 24 < team.toNat ∨ 1 < playing.toNat ∨ 6 < house.toNat ∨ len = 0 ∨ 10 < len.toNat →
        Replies (.setTeam team len name playing house) s s .outOfRange []) ∧
    (∀ n y, s.standings.frozen = false → team ≠ 0 → team.toNat ≤ 24 → playing.toNat ≤ 1 → house.toNat ≤ 6 →
      len ≠ 0 → len.toNat ≤ 10 →
      n = ((name.take len.toNat).map fun c => if 0x20 ≤ c.toNat ∧ c.toNat ≤ 0x7E then c else 0x20) →
      y = { s.standings with
        teams := s.standings.teams.set (team.toNat - 1)
          { s.standings.teamAt team.toNat with name := n, playing := playing = 1, house := house.toNat } } →
      (s.live = true → (s.standings.teamAt team.toNat).playing ≠ (playing = 1 : Bool) →
        Replies (.setTeam team len name playing house) s s .wrongState []) ∧
      (s.live = false ∨ (s.standings.teamAt team.toNat).playing = (playing = 1 : Bool) →
        Replies (.setTeam team len name playing house) s
          ((s.setStandings y).raise
            (.teamChanged team.toNat (playing = 1) house.toNat (y.position team.toNat)))
          .done [((y.position team.toNat).map (BitVec.ofNat 8)).getD 0xFF]))) ∧
  (∀ (team : Byte) (d : BitVec 16) (i : Instr) (s : State), s.waitingCommand = some i →
    i = .adjustScore team d ∨ i = .setScore team d → s.standings.frozen = true → Replies i s s .frozen []) ∧
  (∀ (team : Byte) (d : BitVec 16) (i : Instr) (q : ScoreRequest) (s : State), s.waitingCommand = some i →
    (i = .adjustScore team d ∧ q = ⟨team.toNat, .adjust, none, none, .by d.toInt⟩ ∧ -9999 ≤ d.toInt ∧ d.toInt ≤ 9999) ∨
      (i = .setScore team d ∧ q = ⟨team.toNat, .set, none, none, .target d.toInt⟩ ∧ -999 ≤ d.toInt ∧ d.toInt ≤ 9999) →
    (s.standings.frozen = true → Replies i s s .frozen []) ∧
    (s.standings.frozen = false → team = 0 ∨ 24 < team.toNat → Replies i s s .outOfRange []) ∧
    (∀ y old z a, s.standings.frozen = false → team ≠ 0 → team.toNat ≤ 24 → y = s.standings.apply q →
      old = (s.standings.teamAt team.toNat).score → z = (if i = .adjustScore team d then old + d.toInt else d.toInt) →
      a = max (-999) (min 9999 z) - old →
      Replies i s
        ((s.setStandings y).setLink (s.link.note
          ⟨none, .scoreChanged team.toNat q.source none none a (y.teamAt team.toNat).score
            (y.teamAt team.toNat).clamped (y.teamAt team.toNat).streak (y.teamAt team.toNat).sequence
            (y.position team.toNat) (y.rank team.toNat)⟩)) .done
        (bytesOf 2 (BitVec.ofInt 16 a).toNat
          ++ bytesOf 2 (BitVec.ofInt 16 (y.teamAt team.toNat).score).toNat
          ++ [((y.position team.toNat).map (BitVec.ofNat 8)).getD 0xFF]))) ∧
  (∀ (team : Byte) (d : BitVec 16) (s : State), s.standings.frozen = false →
    (s.waitingCommand = some (.adjustScore team d) → d.toInt < -9999 ∨ 9999 < d.toInt →
      Replies (.adjustScore team d) s s .outOfRange []) ∧
    (s.waitingCommand = some (.setScore team d) → d.toInt < -999 ∨ 9999 < d.toInt →
      Replies (.setScore team d) s s .outOfRange [])) ∧
  (∀ (b : Byte) (s : State), s.waitingCommand = some (.setTieDisplay b) →
    (1 < b.toNat → Replies (.setTieDisplay b) s s .outOfRange []) ∧
    (b.toNat ≤ 1 → Replies (.setTieDisplay b) s
      (s.setStandings { s.standings with tie := if b = 0 then .strict else .shared }) .done [])) ∧
  (∀ s : State, s.waitingCommand = some .freeze →
    (s.live = true → Replies .freeze s s .wrongState []) ∧
    (s.live = false → s.standings.frozen = true → Replies .freeze s s .done []) ∧
    (s.live = false → s.standings.frozen = false → Replies .freeze s
      ((s.setStandings { s.standings with frozen := true }).raise (.freezeSet s.standings.counter)) .done [])) ∧
  (∀ s : State, s.waitingCommand = some .unfreeze →
    (s.standings.frozen = false → Replies .unfreeze s s .done []) ∧
    (s.standings.frozen = true → Replies .unfreeze s
      ((s.setStandings { s.standings with frozen := false }).raise .freezeReleased) .done []))

/-- R155 to R162: SET HOUSE, SET PLACE POINTS and COMMIT GAME. A commit adds each house's whole sum to its total,
clamped once, counts the game for a house with a contributing team, clears the game standings, and tells GAME COMMITTED
with the method, the number of contributing teams, and for each house the sum, the applied change, the new total and the
games. (The 3 bytes of an applied change are the model's; log 43.) A shown house's place is its place in the order of
total and house number under STRICT, and 1 plus the number of shown houses with a higher total under SHARED; a house
that is not shown has none. (That places are computed from the totals as they stand is the model's; log 13.) -/
def Obligations.HouseCupCommands : Prop :=
  (∀ (house len shown games : Byte) (name : List Byte) (total : BitVec 24) (s : State),
    s.waitingCommand = some (.setHouse house len name shown total games) → name.length = 10 →
    (house = 0 ∨ 6 < house.toNat ∨ len = 0 ∨ 10 < len.toNat ∨ 1 < shown.toNat ∨ total.toInt < -99999 ∨
        999999 < total.toInt → Replies (.setHouse house len name shown total games) s s .outOfRange []) ∧
    (∀ n y, house ≠ 0 → house.toNat ≤ 6 → len ≠ 0 → len.toNat ≤ 10 → shown.toNat ≤ 1 → -99999 ≤ total.toInt →
      total.toInt ≤ 999999 →
      n = ((name.take len.toNat).map fun c => if 0x20 ≤ c.toNat ∧ c.toNat ≤ 0x7E then c else 0x20) →
      y = { s.standings with
        houses := s.standings.houses.set (house.toNat - 1) ⟨n, shown = 1, total.toInt, games.toNat⟩ } →
      Replies (.setHouse house len name shown total games) s
        ((s.setStandings y).raise
          (.houseChanged house.toNat (shown = 1) total.toInt games.toNat (y.place house.toNat)))
        .done [((y.place house.toNat).map (BitVec.ofNat 8)).getD 0xFF])) ∧
  (∀ (ps : List Byte) (s : State), s.waitingCommand = some (.setPlacePoints ps) →
    ((∃ p ∈ ps, 100 < p.toNat) → Replies (.setPlacePoints ps) s s .outOfRange []) ∧
    ((∀ p ∈ ps, p.toNat ≤ 100) → Replies (.setPlacePoints ps) s
      (s.setStandings { s.standings with placePoints := ps.map BitVec.toNat }) .done [])) ∧
  (∀ (b : Byte) (s : State), s.waitingCommand = some (.commitGame b) →
    (s.standings.frozen = false ∨ s.live = true → Replies (.commitGame b) s s .wrongState []) ∧
    (s.standings.frozen = true → s.live = false → s.board.state ≠ .live → Replies (.commitGame b) s s .busy []) ∧
    (s.standings.frozen = true → s.live = false → s.board.state = .live → 1 < b.toNat →
      Replies (.commitGame b) s s .outOfRange []) ∧
    (∀ m : CommitMethod, s.standings.frozen = true → s.live = false → s.board.state = .live → m.code = b →
      s.standings.teams.length = 24 →
      ∃ t f, f = (fun h => (List.range 24).filter fun i =>
          (s.standings.teamAt (i + 1)).playing && (s.standings.teamAt (i + 1)).house = h) ∧
        Replies (.commitGame b) s t .done
          ((List.range 6).map fun i => bytesOf 3 (BitVec.ofInt 24 (t.standings.houseAt (i + 1)).total).toNat).flatten ∧
        (∀ n, isTeamNumber n = true → t.standings.teamAt n =
          { s.standings.teamAt n with
            score := 0, streak := 0, correct := 0, wrong := 0, sequence := 0, clamped := false }) ∧
        t.standings.counter = 0 ∧ t.standings.frozen = false ∧ t.standings.tie = s.standings.tie ∧
        t.standings.placePoints = s.standings.placePoints ∧
        (∀ h, 1 ≤ h → h ≤ 6 → t.standings.houseAt h =
          if f h = [] then s.standings.houseAt h
          else
            { s.standings.houseAt h with
              total := max (-99999) (min 999999 ((s.standings.houseAt h).total
                + ((f h).map fun i => s.standings.contribution m (i + 1)).sum))
              games := min 255 ((s.standings.houseAt h).games + 1) }) ∧
        Tells s t
          [⟨none, .gameCommitted m
            ((List.range 24).countP fun i => (s.standings.teamAt (i + 1)).playing &&
              1 ≤ (s.standings.teamAt (i + 1)).house && (s.standings.teamAt (i + 1)).house ≤ 6)
            ((List.range 6).map fun i =>
              ⟨((f (i + 1)).map fun j => s.standings.contribution m (j + 1)).sum,
                (t.standings.houseAt (i + 1)).total - (s.standings.houseAt (i + 1)).total,
                (t.standings.houseAt (i + 1)).total, (t.standings.houseAt (i + 1)).games⟩)⟩] ∧
        t = (s.setStandings t.standings).setLink t.link ∧
        t.engine = s.engine ∧ t.list = s.list ∧ t.board = s.board ∧ t.intake = s.intake)) ∧
  (∀ (x : Standings) (h : Nat), 1 ≤ h → h ≤ 6 →
    ((x.houseAt h).shown = false → x.place h = none) ∧
    ((x.houseAt h).shown = true → x.tie = .strict → x.place h = some (1 + housesAhead x h)) ∧
    ((x.houseAt h).shown = true → x.tie = .shared → x.place h = some (1 + (List.range 6).countP fun i =>
      (x.houseAt (i + 1)).shown && (x.houseAt h).total < (x.houseAt (i + 1)).total))) ∧
  (∀ (m : CommitMethod) (n : Nat) (hs : List HouseChange), (Event.gameCommitted m n hs).values =
    [m.code, BitVec.ofNat 8 n]
      ++ (hs.map fun h =>
        sentTotal h.sum ++ sentTotal h.applied ++ sentTotal h.total ++ [BitVec.ofNat 8 h.games]).flatten) ∧
  (∀ (x : Standings) (t : Nat), x.contribution .score t = (x.teamAt t).score ∧
    (∀ p, x.position t = some p →
      x.contribution .places t = if p ≤ 8 then (x.placePoints.getD (p - 1) 0 : Nat) else 0))

/-- R112, R131, R151, R163, R178: the reads of the floor, the answers, the standings, the houses and the boards answer
DONE in every engine state for a view and an argument in range, with the values that their rules list in the forms of
R196, and OUT OF RANGE for any other, and change nothing. (The model's are: when there is no settle deadline, log 14;
the forms in READ ANSWERS that no rule fixes, log 18 and, of an absent share, log 47; an absent source, log 19; the
forms in READ BOARD that no rule fixes, log 33; an empty position, log 38.) -/
def Obligations.ReadsChangeNothing : Prop :=
  ∀ s : State,
    (s.waitingCommand = some .readFloor → Replies .readFloor s s .done (floorReply s)) ∧
    (∀ v a, s.waitingCommand = some (.readAnswers v a) →
      (v = 0 → a = 0 → Replies (.readAnswers v a) s s .done (answersSummary s.answers)) ∧
      (v = 1 → Replies (.readAnswers v a) s s .done (answersEntries s.answers a.toNat)) ∧
      (v = 2 → a = 1 ∨ a = 2 → Replies (.readAnswers v a) s s .done
        ((List.range 12).map fun i => answersTeam s.answers (if a = 1 then i + 1 else i + 13)).flatten) ∧
      (¬((v = 0 ∧ a = 0) ∨ v = 1 ∨ (v = 2 ∧ (a = 1 ∨ a = 2))) → Replies (.readAnswers v a) s s .outOfRange [])) ∧
    (∀ v a, s.waitingCommand = some (.readStandings v a) →
      (v = 0 → a = 0 → Replies (.readStandings v a) s s .done
        ([BitVec.ofNat 8 s.standings.playingCount] ++ bytesOf 3 s.standings.counter
          ++ [if s.standings.frozen then 1 else 0, s.standings.tie.code])) ∧
      (v = 1 → isTeamNumber a.toNat = true →
        Replies (.readStandings v a) s s .done (standingsTeam s.standings a.toNat)) ∧
      (v = 2 → a = 1 ∨ a = 2 → Replies (.readStandings v a) s s .done
        ((List.range 12).map fun i => standingsPlace s.standings (if a = 1 then i + 1 else i + 13)).flatten) ∧
      (¬((v = 0 ∧ a = 0) ∨ (v = 1 ∧ isTeamNumber a.toNat = true) ∨ (v = 2 ∧ (a = 1 ∨ a = 2))) →
        Replies (.readStandings v a) s s .outOfRange [])) ∧
    (∀ v, s.waitingCommand = some (.readHouses v) →
      (v = 0 → Replies (.readHouses v) s s .done
        ((List.range 6).map fun i => houseRecord s.standings (i + 1)).flatten) ∧
      (v = 1 → Replies (.readHouses v) s s .done (s.standings.placePoints.map (BitVec.ofNat 8))) ∧
      (v = 2 → Replies (.readHouses v) s s .done
        (((List.range 6).map fun i => housePreview s.standings (i + 1)).flatten
          ++ [if s.standings.frozen then 1 else 0, s.board.state.code])) ∧
      (2 < v.toNat → Replies (.readHouses v) s s .outOfRange [])) ∧
    (∀ v a, s.waitingCommand = some (.readBoard v a) →
      (v = 0 → a = 0 → Replies (.readBoard v a) s s .done (boardSummaryReply s)) ∧
      (v = 1 → a.toNat ≤ 24 → Replies (.readBoard v a) s s .done (boardPanelReply s a.toNat)) ∧
      (¬((v = 0 ∧ a = 0) ∨ (v = 1 ∧ a.toNat ≤ 24)) → Replies (.readBoard v a) s s .outOfRange []))

/-! ### The Board Driver and the tick -/

/-- R34, R159, R166, R167, R173 to R177: the lines and the other values of the leaderboard's target, line by line as its
mark is set or clear; and HOLD BOARDS, REVEAL BOARDS, a reveal step, RELEASE BOARDS and SET LEADERBOARD MODE. A reveal
step tells BOARD REVEAL STEP with the cursor and what it released, and the final one BOARD REVEAL COMPLETE after it.
(Four things are the model's: the snapshot is given up at the final step and at RELEASE BOARDS; log 27. The reveal timer
is reloaded by its row; log 37. A step that is not due has no effect; log 1. The values that the boards follow are
computed from what they follow, and the countdown from the second last reported, so that it changes with the row of the
round timer; log 5, log 13, log 24.) -/
def Obligations.BoardsAreHeldRevealedAndReleased : Prop :=
  (∀ s : State, s.waitingCommand = some .holdBoards →
    (s.board.state ≠ .live → Replies .holdBoards s s .wrongState []) ∧
    (s.board.state = .live → s.board.panels.length = 25 → ∃ t, Replies .holdBoards s t .done [] ∧
      t.board.state = .held ∧ t.board.lineHeld = List.replicate 8 true ∧
      t.board =
        { s.board with
          state := .held, lineHeld := List.replicate 8 true, panels := t.board.panels
          snapshot := some
            ⟨(List.range 24).map fun i => ((s.liveTeamImage (i + 1)).score, (s.liveTeamImage (i + 1)).rank),
              (List.range 8).map fun i => liveLine s.standings .teams (i + 1),
              (List.range 8).map fun i => liveLine s.standings .houses (i + 1)⟩ } ∧
      t.board.panelAt 0 = s.board.panelAt 0 ∧ t = (s.setBoard t.board).setLink t.link ∧
      (∀ n, isTeamNumber n = true → t.board.panelAt n = { s.board.panelAt n with held := true }) ∧
      (∀ n, isTeamNumber n = true → t.teamTarget n =
        ⟨(s.liveTeamImage n).score, (s.liveTeamImage n).rank, false⟩) ∧
      t.leaderTarget = ⟨s.board.mode, s.standings.lines s.board.mode, s.countdown, s.slotShown⟩ ∧
      t.link = s.link.note ⟨none, .boardHeld s.standings.playingCount⟩ ∧ t.standings = s.standings ∧
      t.engine = s.engine ∧ t.list = s.list)) ∧
  (∀ (b : Byte) (s : State), s.waitingCommand = some (.revealBoards b) →
    (s.board.state ≠ .held → Replies (.revealBoards b) s s .wrongState []) ∧
    (s.board.state = .held → ∀ n, n = max 1 (min 10 b.toNat) →
      Replies (.revealBoards b) s
        (s.setBoard
          { s.board with
            state := .revealing, cursor := max 1 s.standings.playingCount
            interval := n * 1000, revealLeft := n * 1000 })
        .taken [BitVec.ofNat 8 n])) ∧
  (∀ s : State, s.board.state = .revealing → s.board.revealLeft = 0 → s.board.lineHeld.length = 8 →
    s.board.panels.length = 25 → ∃ t, exec .revealStep s = .next t ∧
      (1 < s.board.cursor →
        (∀ n, isTeamNumber n = true → t.board.panelAt n =
          if s.standings.position n = some s.board.cursor then { s.board.panelAt n with held := false }
          else s.board.panelAt n) ∧
        (∀ k, k < 8 → t.board.lineHeld.getD k false =
          if k + 1 = s.board.cursor then false else s.board.lineHeld.getD k false) ∧
        t.board.state = .revealing ∧ t.board.cursor = s.board.cursor - 1 ∧
        t.board.revealLeft = s.board.interval ∧ t.board.snapshot = s.board.snapshot ∧
        t.board =
          { s.board with
            panels := t.board.panels, lineHeld := t.board.lineHeld
            cursor := s.board.cursor - 1, revealLeft := s.board.interval }) ∧
      (s.board.cursor = 1 →
        t.board.state = .live ∧ t.board.lineHeld = List.replicate 8 false ∧ t.board.snapshot = none ∧
        t.board =
          { s.board with
            state := .live, panels := t.board.panels, lineHeld := List.replicate 8 false, snapshot := none
            revealLeft := 0 } ∧
        (∀ n, isTeamNumber n = true → t.board.panelAt n = { s.board.panelAt n with held := false })) ∧
      (∃ r, r = (((List.range 24).map (· + 1)).find? fun n => s.standings.position n = some s.board.cursor) ∧
        Tells s t
          (⟨none, .revealStep s.board.cursor r (if s.board.cursor ≤ 8 then some s.board.cursor else none)⟩ ::
            if s.board.cursor = 1 then [⟨none, .revealComplete⟩] else [])) ∧
      t.board.panelAt 0 = s.board.panelAt 0 ∧ t = (s.setBoard t.board).setLink t.link ∧
      t.standings = s.standings ∧ t.engine = s.engine ∧ t.list = s.list) ∧
  (∀ s : State, s.board.state ≠ .revealing ∨ s.board.revealLeft ≠ 0 → exec .revealStep s = .next s) ∧
  (∀ s : State, s.waitingCommand = some .releaseBoards →
    (s.board.state = .live → Replies .releaseBoards s s .done []) ∧
    (s.board.state ≠ .live → s.board.panels.length = 25 → ∃ t, Replies .releaseBoards s t .done [] ∧
      t.board.state = .live ∧ t.board.lineHeld = List.replicate 8 false ∧ t.board.snapshot = none ∧
      t.board =
        { s.board with
          state := .live, panels := t.board.panels, lineHeld := List.replicate 8 false, snapshot := none
          revealLeft := 0 } ∧
      t.board.panelAt 0 = s.board.panelAt 0 ∧ t = (s.setBoard t.board).setLink t.link ∧
      (∀ n, isTeamNumber n = true → t.board.panelAt n = { s.board.panelAt n with held := false }) ∧
      t.link = s.link.note ⟨none, .boardReleased s.board.state⟩ ∧ t.standings = s.standings ∧ t.engine = s.engine)) ∧
  (∀ (b : Byte) (s : State), s.waitingCommand = some (.setLeaderboardMode b) →
    (1 < b.toNat → Replies (.setLeaderboardMode b) s s .outOfRange []) ∧
    (b.toNat ≤ 1 → Replies (.setLeaderboardMode b) s
      (s.setBoard { s.board with mode := if b = 0 then .teams else .houses }) .done [])) ∧
  (∀ (x : Standings) (m : BoardMode), x.lines m = (List.range 8).map fun i => liveLine x m (i + 1)) ∧
  (∀ s : State,
    s.leaderTarget.mode = s.board.mode ∧ s.leaderTarget.lines.length = 8 ∧
    (∀ i, i < 8 →
      (s.board.lineHeld.getD i false = false →
        s.leaderTarget.lines[i]? = some (liveLine s.standings s.board.mode (i + 1))) ∧
      (∀ x, s.board.lineHeld.getD i false = true → s.board.snapshot = some x →
        s.leaderTarget.lines[i]? =
          some ((if s.board.mode = .teams then x.teamLines else x.houseLines).getD i none))) ∧
    (∀ x n, s.board.snapshot = some x → isTeamNumber n = true → s.teamTarget n =
      if (s.board.panelAt n).held = true then
        ⟨(x.panels.getD (n - 1) (none, none)).1, (x.panels.getD (n - 1) (none, none)).2, false⟩
      else s.liveTeamImage n) ∧
    s.leaderTarget.slot = (if s.engine.state = .idle then none else some s.list.pointer.val) ∧
    (s.engine.state ∈ [.opened, .settling, .floor] → s.leaderTarget.countdown = s.context.lastSecond) ∧
    (s.engine.state = .paused → s.leaderTarget.countdown =
      if s.engine.remembered ∈ [some .opened, some .settling, some .floor] then s.context.lastSecond else none) ∧
    (s.engine.state ∈ [.idle, .cued, .reading, .tallying, .awaitKey] → s.leaderTarget.countdown = none))

/-- R165, R166, R168 to R172, R180: the free chain takes up the first dirty panel after the refresh pointer, with its
target as it stands, and makes it the shown image at completion; a check polls the addresses in turn, and a poll
completes at a good reply of that address or at the end of the wait; with work of both kinds they alternate. A reply
that does not start with 0x5B, fails its check byte or names another address is discarded. An operation that a show
reset has marked void completes without effect on its panel. A poll of the last address ends the check and tells its
results. A panel's live image blinks while its blink remaining is above 0. (The model's are: the wait of 50 ticks from
POLL_BEGIN, log 7; that either kind may begin while no operation has completed, log 9; that a voided operation counts as
the one last completed, log 26; that a reply whose status is neither 0 nor 1 is discarded, log 25; the mark that a blink
has begun, log 5; that target and dirty mark are computed from what they follow, log 13; that a row whose moment is not
there has no effect, log 1.) -/
def Obligations.ThePanelChainServesThePanels : Prop :=
  (∀ (a : Nat) (s : State), (s.dirty a = true ↔ (s.board.panelAt a).shown ≠ some (s.target a)) ∧
    s.target a = if a = 0 then .leader s.leaderTarget else .team (s.teamTarget a)) ∧
  (∀ b : Board, b.checkWork = true ↔ ∃ c, b.check = some c ∧ c.next ≤ 24) ∧
  (∀ s : State, s.refreshChoice = none ↔
    ∀ a, a ≤ 24 → s.dirty a = false ∨ (s.board.panelAt a).presence = .missing) ∧
  (∀ (a : Nat) (s : State), s.board.chain = .free → s.refreshChoice = some a →
    (s.board.checkWork = false ∨ s.board.lastKind ≠ some .refresh → exec .refreshSendBegin s = .next
      (s.setBoard { s.board with chain := .refresh a (s.target a) false, pointer := a })) ∧
    (s.board.checkWork = true → s.board.lastKind = some .refresh → exec .refreshSendBegin s = .next s)) ∧
  (∀ (a : Nat) (s : State), s.refreshChoice = some a → a ≤ 24 ∧ s.dirty a = true ∧
    (s.board.panelAt a).presence ≠ .missing ∧
    ∀ i j, j < i → i < 25 → a = (s.board.pointer + 1 + i) % 25 →
      s.dirty ((s.board.pointer + 1 + j) % 25) = false ∨
        (s.board.panelAt ((s.board.pointer + 1 + j) % 25)).presence = .missing) ∧
  (∀ (a : Nat) (m : Image) (s : State), s.board.panels.length = 25 → a ≤ 24 → s.board.chain = .refresh a m false →
    ∃ t, exec .refreshSendComplete s = .next t ∧ t.board.chain = .free ∧ t.board.lastKind = some .refresh ∧
      (∀ x, t.board.panelAt x = if x = a then { s.board.panelAt a with shown := some m } else s.board.panelAt x) ∧
      t = s.setBoard { s.board with chain := .free, lastKind := some .refresh, panels := t.board.panels } ∧
      t.link = s.link ∧ t.standings = s.standings ∧ t.engine = s.engine) ∧
  (∀ (a : Nat) (m : Image) (s : State), s.board.chain = .refresh a m true → exec .refreshSendComplete s = .next
    (s.setBoard { s.board with chain := .free, lastKind := some .refresh })) ∧
  (∀ (c : PanelCheck) (s : State), s.board.check = some c → c.next ≤ 24 → s.board.chain = .free →
    s.refreshChoice = none ∨ s.board.lastKind ≠ some .poll →
      exec .pollBegin s = .next (s.setBoard { s.board with chain := .poll c.next 0 false })) ∧
  (∀ (i : Instr) (p : Presence) (a w : Nat) (c : PanelCheck) (s : State), s.board.chain = .poll a w false →
    s.board.check = some c → s.board.panels.length = 25 → a ≤ 24 →
    (i = .panelPollReply ⟨0x5B, BitVec.ofNat 8 a⟩ 0 (BitVec.ofNat 8 a) ∧ p = .present) ∨
      (i = .panelPollReply ⟨0x5B, BitVec.ofNat 8 a⟩ 1 (BitVec.ofNat 8 a ^^^ 1) ∧ p = .fault) ∨
      (i = .panelPollTimeout ∧ p = .missing ∧ 50 ≤ w) →
    ∃ t, exec i s = .next t ∧ t.board.chain = .free ∧ t.board.lastKind = some .poll ∧
      (∀ x, t.board.panelAt x = if x = a then
        { s.board.panelAt a with
          presence := p
          shown := if (s.board.panelAt a).presence = .missing ∧ p ≠ .missing then none
            else (s.board.panelAt a).shown } else s.board.panelAt x) ∧
      (a ≠ 24 → t.board.check =
        some ⟨c.next + 1, if (s.board.panelAt a).presence = p then c.changed else c.changed + 1⟩ ∧ t.link = s.link) ∧
      (a = 24 → t.board.check = none ∧ ∃ f : Presence → Nat,
        (∀ x, f x = (List.range 25).countP fun n => (t.board.panelAt n).presence = x) ∧
        Tells s t [⟨none, .checkComplete ((List.range 25).map fun n => (t.board.panelAt n).presence) (f .present)
          (f .fault) (f .missing)
          (if (s.board.panelAt a).presence = p then c.changed else c.changed + 1)⟩]) ∧
      t.board =
        { s.board with
          chain := .free, lastKind := some .poll, panels := t.board.panels, check := t.board.check } ∧
      t = (s.setBoard t.board).setLink t.link ∧
      t.standings = s.standings ∧ t.engine = s.engine ∧ t.list = s.list) ∧
  (∀ (i : Instr) (a w : Nat) (s : State), s.board.chain = .poll a w true → a ≤ 24 →
    i = .panelPollReply ⟨0x5B, BitVec.ofNat 8 a⟩ 0 (BitVec.ofNat 8 a) ∨
      i = .panelPollReply ⟨0x5B, BitVec.ofNat 8 a⟩ 1 (BitVec.ofNat 8 a ^^^ 1) ∨ (i = .panelPollTimeout ∧ 50 ≤ w) →
    exec i s = .next (s.setBoard { s.board with chain := .free, lastKind := some .poll })) ∧
  (∀ (x y z u : Byte) (s : State),
    (∀ a w v, s.board.chain = .poll a w v → x ≠ 0x5B ∨ y.toNat ≠ a ∨ u ≠ y ^^^ z ∨ 1 < z.toNat) →
    exec (.panelPollReply ⟨x, y⟩ z u) s = .next s) ∧
  (∀ s : State, s.waitingCommand = some .checkPanels →
    (s.board.check ≠ none → Replies .checkPanels s s .busy []) ∧
    (s.board.check = none →
      Replies .checkPanels s (s.setBoard { s.board with check := some ⟨0, 0⟩ }) .taken [])) ∧
  (∀ (n : Nat) (s : State), isTeamNumber n = true →
    ((s.board.panelAt n).blinkLeft = 0 → exec (.winnerBlinkEnd n) s = .next
      (s.setBoard { s.board with panels := s.board.panels.set n { s.board.panelAt n with blinkOpen := false } })) ∧
    ((s.board.panelAt n).blinkLeft ≠ 0 → exec (.winnerBlinkEnd n) s = .next s) ∧
    s.liveTeamImage n =
      ⟨if (s.standings.teamAt n).playing = true then some (s.standings.teamAt n).score else none,
        if (s.standings.teamAt n).playing = true then s.standings.rank n else none,
        0 < (s.board.panelAt n).blinkLeft⟩)

/-- R25, R31 to R33, R35, R52, R56, R65, R172, R174, R188: what one ms counts, and the timer rows that follow the seconds
and the answer time left. (The model's are: the clock advances before the lines are sampled, and the values of a run wait in
newRun, log 4; the gap measures, log 6, and the wait for a poll reply, log 7, in ticks; that a row whose moment is not there
has no effect, log 1; that a tick only counts, so that what a timer at 0 makes due waits for its row, log 5, and ticks between
the 0 and the row are not counted, log 37.) -/
def Obligations.TicksCount : Prop :=
  (∀ (levels : BitVec 24) (s : State), s.consoles.records.length = 24 → ∃ t, exec (.tick levels) s = .next t ∧
    t.engine.state = s.engine.state ∧ t.engine.serial = s.engine.serial ∧
    t.engine.clock =
      (if s.live = true ∧ s.engine.state ≠ .paused then min 1048575 (s.engine.clock + 1) else s.engine.clock) ∧
    (∀ c, s.engine.round = some c → t.context =
      { c with
        readingLeft := if s.engine.state = .reading then c.readingLeft - 1 else c.readingLeft
        roundLeft := if s.engine.state = .opened ∨ (s.engine.state = .settling ∧ c.timeCalled = false) then
          c.roundLeft.map (· - 1) else c.roundLeft
        answerLeft := if s.engine.state = .floor then c.answerLeft.map (· - 1) else c.answerLeft }) ∧
    (∀ n, isTeamNumber n = true → (s.lineAt n).enabled = false → t.lineAt n = s.lineAt n) ∧
    (∀ (n : Nat) (r u : LineRecord) (high : Bool), isTeamNumber n = true → r = s.lineAt n → u = t.lineAt n →
      r.enabled = true → high = levels.getLsbD (n - 1) →
      u.level = (if high = (r.polarity = .high : Bool) then .pressed else .released) ∧
      u.state = r.state ∧ u.runStart = r.runStart ∧
      (r.fresh = true ∨ u.level ≠ r.level → u.runLength = 1 ∧
        u.newRun = some ⟨t.engine.clock, s.live, s.engine.serial, s.engine.state = .paused⟩) ∧
      (r.fresh = false → u.level = r.level → u.newRun = r.newRun ∧ u.runLength = min 65536 (r.runLength + 1)) ∧
      u.count = (match r.state with
        | .pressed | .stuck => min 65535 (r.count + 1)
        | .waitRelease => if u.level = .pressed then min 65535 (u.runLength - 1) else 0
        | .ready => r.count
        | .disabled => 0)) ∧
    t.consoles.blinkLeft = s.consoles.blinkLeft - 1 ∧ t.consoles.floorLamps = s.consoles.floorLamps ∧
    t.link.hold = s.link.hold.map (· - 1) ∧
    t.link.gap = (if s.link.receiving.isSome = true then min 21 (s.link.gap + 1) else s.link.gap) ∧
    t.intake.portGap = (if s.intake.port.isSome = true then min 2 (s.intake.portGap + 1) else s.intake.portGap) ∧
    (∀ a w v, s.board.chain = .poll a w v → t.board.chain = .poll a (min 50 (w + 1)) v) ∧
    ((∀ a w v, s.board.chain ≠ .poll a w v) → t.board.chain = s.board.chain) ∧
    (∀ n, isTeamNumber n = true → t.board.panelAt n =
      { s.board.panelAt n with blinkLeft := (s.board.panelAt n).blinkLeft - 1 }) ∧
    t.board.revealLeft = (if s.board.state = .revealing then s.board.revealLeft - 1 else s.board.revealLeft) ∧
    t.list = s.list ∧ t.arbiter = s.arbiter ∧ t.intake.fifo = s.intake.fifo ∧ t.intake.roster = s.intake.roster ∧
    t.engine = { s.engine with clock := t.engine.clock, round := t.engine.round } ∧
    t.consoles = { s.consoles with records := t.consoles.records, blinkLeft := t.consoles.blinkLeft } ∧
    t.intake = { s.intake with portGap := t.intake.portGap } ∧
    t.link = { s.link with gap := t.link.gap, hold := t.link.hold } ∧
    t.board =
      { s.board with panels := t.board.panels, revealLeft := t.board.revealLeft, chain := t.board.chain } ∧
    t.free = s.free ∧ t.pending = s.pending ∧
    t.answers = s.answers ∧ t.standings = s.standings ∧ t.link.queue = s.link.queue) ∧
  (∀ (ms n : Nat) (c : Context) (s : State), s.engine.round = some c → c.roundLeft = some ms → n = (ms + 999) / 1000 →
    (s.engine.state = .opened ∨ (s.engine.state = .settling ∧ c.timeCalled = false) → 0 < ms →
      c.lastSecond ≠ some n → ∃ t u,
        t = (s.setEngine { s.engine with round := some { c with lastSecond := some n } }).raise (.timerSecond n) ∧
        u = (if (n = 10 ∧ 10000 < s.setup.timeLimitMs) ∨ (n = 5 ∧ 5000 < s.setup.timeLimitMs) then
          t.raise (.timerWarning n) else t) ∧
        exec .roundTimerSecond s = .next u) ∧
    (c.lastSecond = some n ∨ ms = 0 → exec .roundTimerSecond s = .next s)) ∧
  (∀ (h : Holder) (ms : Nat) (s : State), s.engine.state = .floor → s.context.holder = some h →
    s.context.answerLeft = some ms →
    (ms ≤ 5000 → exec .answerTimerBlink s = .next
      (s.setConsoles { s.consoles with floorLamps := s.consoles.floorLamps.set (h.team - 1) .blink })) ∧
    (5000 < ms → exec .answerTimerBlink s = .next s))

end
end

