-- ==== Sys2Proof/Laws/State.lean ====
section
/-! SUPPORT. One lemma per field and per update of `State`: what each field reads after each unit is replaced. True by
`rfl` and tagged `simp`, so that no later proof unfolds a record update. -/

namespace Sys2Proof.Machine

/-! ### After `setList` -/

@[simp] theorem State.setList_list (s : State) (x : RoundList) : (s.setList x).list = x := rfl
@[simp] theorem State.setList_engine (s : State) (x : RoundList) : (s.setList x).engine = s.engine := rfl
@[simp] theorem State.setList_arbiter (s : State) (x : RoundList) : (s.setList x).arbiter = s.arbiter := rfl
@[simp] theorem State.setList_consoles (s : State) (x : RoundList) : (s.setList x).consoles = s.consoles := rfl
@[simp] theorem State.setList_intake (s : State) (x : RoundList) : (s.setList x).intake = s.intake := rfl
@[simp] theorem State.setList_answers (s : State) (x : RoundList) : (s.setList x).answers = s.answers := rfl
@[simp] theorem State.setList_standings (s : State) (x : RoundList) : (s.setList x).standings = s.standings := rfl
@[simp] theorem State.setList_board (s : State) (x : RoundList) : (s.setList x).board = s.board := rfl
@[simp] theorem State.setList_link (s : State) (x : RoundList) : (s.setList x).link = s.link := rfl
@[simp] theorem State.setList_free (s : State) (x : RoundList) : (s.setList x).free = s.free := rfl
@[simp] theorem State.setList_pending (s : State) (x : RoundList) : (s.setList x).pending = s.pending := rfl

/-! ### After `setEngine` -/

@[simp] theorem State.setEngine_list (s : State) (x : Engine) : (s.setEngine x).list = s.list := rfl
@[simp] theorem State.setEngine_engine (s : State) (x : Engine) : (s.setEngine x).engine = x := rfl
@[simp] theorem State.setEngine_arbiter (s : State) (x : Engine) : (s.setEngine x).arbiter = s.arbiter := rfl
@[simp] theorem State.setEngine_consoles (s : State) (x : Engine) : (s.setEngine x).consoles = s.consoles := rfl
@[simp] theorem State.setEngine_intake (s : State) (x : Engine) : (s.setEngine x).intake = s.intake := rfl
@[simp] theorem State.setEngine_answers (s : State) (x : Engine) : (s.setEngine x).answers = s.answers := rfl
@[simp] theorem State.setEngine_standings (s : State) (x : Engine) : (s.setEngine x).standings = s.standings := rfl
@[simp] theorem State.setEngine_board (s : State) (x : Engine) : (s.setEngine x).board = s.board := rfl
@[simp] theorem State.setEngine_link (s : State) (x : Engine) : (s.setEngine x).link = s.link := rfl
@[simp] theorem State.setEngine_free (s : State) (x : Engine) : (s.setEngine x).free = s.free := rfl
@[simp] theorem State.setEngine_pending (s : State) (x : Engine) : (s.setEngine x).pending = s.pending := rfl

/-! ### After `setArbiter` -/

@[simp] theorem State.setArbiter_list (s : State) (x : Arbiter) : (s.setArbiter x).list = s.list := rfl
@[simp] theorem State.setArbiter_engine (s : State) (x : Arbiter) : (s.setArbiter x).engine = s.engine := rfl
@[simp] theorem State.setArbiter_arbiter (s : State) (x : Arbiter) : (s.setArbiter x).arbiter = x := rfl
@[simp] theorem State.setArbiter_consoles (s : State) (x : Arbiter) : (s.setArbiter x).consoles = s.consoles := rfl
@[simp] theorem State.setArbiter_intake (s : State) (x : Arbiter) : (s.setArbiter x).intake = s.intake := rfl
@[simp] theorem State.setArbiter_answers (s : State) (x : Arbiter) : (s.setArbiter x).answers = s.answers := rfl
@[simp] theorem State.setArbiter_standings (s : State) (x : Arbiter) : (s.setArbiter x).standings = s.standings := rfl
@[simp] theorem State.setArbiter_board (s : State) (x : Arbiter) : (s.setArbiter x).board = s.board := rfl
@[simp] theorem State.setArbiter_link (s : State) (x : Arbiter) : (s.setArbiter x).link = s.link := rfl
@[simp] theorem State.setArbiter_free (s : State) (x : Arbiter) : (s.setArbiter x).free = s.free := rfl
@[simp] theorem State.setArbiter_pending (s : State) (x : Arbiter) : (s.setArbiter x).pending = s.pending := rfl

/-! ### After `setConsoles` -/

@[simp] theorem State.setConsoles_list (s : State) (x : ConsoleUnit) : (s.setConsoles x).list = s.list := rfl
@[simp] theorem State.setConsoles_engine (s : State) (x : ConsoleUnit) : (s.setConsoles x).engine = s.engine := rfl
@[simp] theorem State.setConsoles_arbiter (s : State) (x : ConsoleUnit) : (s.setConsoles x).arbiter = s.arbiter := rfl
@[simp] theorem State.setConsoles_consoles (s : State) (x : ConsoleUnit) : (s.setConsoles x).consoles = x := rfl
@[simp] theorem State.setConsoles_intake (s : State) (x : ConsoleUnit) : (s.setConsoles x).intake = s.intake := rfl
@[simp] theorem State.setConsoles_answers (s : State) (x : ConsoleUnit) : (s.setConsoles x).answers = s.answers := rfl
@[simp] theorem State.setConsoles_standings (s : State) (x : ConsoleUnit) : (s.setConsoles x).standings = s.standings := rfl
@[simp] theorem State.setConsoles_board (s : State) (x : ConsoleUnit) : (s.setConsoles x).board = s.board := rfl
@[simp] theorem State.setConsoles_link (s : State) (x : ConsoleUnit) : (s.setConsoles x).link = s.link := rfl
@[simp] theorem State.setConsoles_free (s : State) (x : ConsoleUnit) : (s.setConsoles x).free = s.free := rfl
@[simp] theorem State.setConsoles_pending (s : State) (x : ConsoleUnit) : (s.setConsoles x).pending = s.pending := rfl

/-! ### After `setIntake` -/

@[simp] theorem State.setIntake_list (s : State) (x : Intake) : (s.setIntake x).list = s.list := rfl
@[simp] theorem State.setIntake_engine (s : State) (x : Intake) : (s.setIntake x).engine = s.engine := rfl
@[simp] theorem State.setIntake_arbiter (s : State) (x : Intake) : (s.setIntake x).arbiter = s.arbiter := rfl
@[simp] theorem State.setIntake_consoles (s : State) (x : Intake) : (s.setIntake x).consoles = s.consoles := rfl
@[simp] theorem State.setIntake_intake (s : State) (x : Intake) : (s.setIntake x).intake = x := rfl
@[simp] theorem State.setIntake_answers (s : State) (x : Intake) : (s.setIntake x).answers = s.answers := rfl
@[simp] theorem State.setIntake_standings (s : State) (x : Intake) : (s.setIntake x).standings = s.standings := rfl
@[simp] theorem State.setIntake_board (s : State) (x : Intake) : (s.setIntake x).board = s.board := rfl
@[simp] theorem State.setIntake_link (s : State) (x : Intake) : (s.setIntake x).link = s.link := rfl
@[simp] theorem State.setIntake_free (s : State) (x : Intake) : (s.setIntake x).free = s.free := rfl
@[simp] theorem State.setIntake_pending (s : State) (x : Intake) : (s.setIntake x).pending = s.pending := rfl

/-! ### After `setAnswers` -/

@[simp] theorem State.setAnswers_list (s : State) (x : Collector) : (s.setAnswers x).list = s.list := rfl
@[simp] theorem State.setAnswers_engine (s : State) (x : Collector) : (s.setAnswers x).engine = s.engine := rfl
@[simp] theorem State.setAnswers_arbiter (s : State) (x : Collector) : (s.setAnswers x).arbiter = s.arbiter := rfl
@[simp] theorem State.setAnswers_consoles (s : State) (x : Collector) : (s.setAnswers x).consoles = s.consoles := rfl
@[simp] theorem State.setAnswers_intake (s : State) (x : Collector) : (s.setAnswers x).intake = s.intake := rfl
@[simp] theorem State.setAnswers_answers (s : State) (x : Collector) : (s.setAnswers x).answers = x := rfl
@[simp] theorem State.setAnswers_standings (s : State) (x : Collector) : (s.setAnswers x).standings = s.standings := rfl
@[simp] theorem State.setAnswers_board (s : State) (x : Collector) : (s.setAnswers x).board = s.board := rfl
@[simp] theorem State.setAnswers_link (s : State) (x : Collector) : (s.setAnswers x).link = s.link := rfl
@[simp] theorem State.setAnswers_free (s : State) (x : Collector) : (s.setAnswers x).free = s.free := rfl
@[simp] theorem State.setAnswers_pending (s : State) (x : Collector) : (s.setAnswers x).pending = s.pending := rfl

/-! ### After `setStandings` -/

@[simp] theorem State.setStandings_list (s : State) (x : Standings) : (s.setStandings x).list = s.list := rfl
@[simp] theorem State.setStandings_engine (s : State) (x : Standings) : (s.setStandings x).engine = s.engine := rfl
@[simp] theorem State.setStandings_arbiter (s : State) (x : Standings) : (s.setStandings x).arbiter = s.arbiter := rfl
@[simp] theorem State.setStandings_consoles (s : State) (x : Standings) : (s.setStandings x).consoles = s.consoles := rfl
@[simp] theorem State.setStandings_intake (s : State) (x : Standings) : (s.setStandings x).intake = s.intake := rfl
@[simp] theorem State.setStandings_answers (s : State) (x : Standings) : (s.setStandings x).answers = s.answers := rfl
@[simp] theorem State.setStandings_standings (s : State) (x : Standings) : (s.setStandings x).standings = x := rfl
@[simp] theorem State.setStandings_board (s : State) (x : Standings) : (s.setStandings x).board = s.board := rfl
@[simp] theorem State.setStandings_link (s : State) (x : Standings) : (s.setStandings x).link = s.link := rfl
@[simp] theorem State.setStandings_free (s : State) (x : Standings) : (s.setStandings x).free = s.free := rfl
@[simp] theorem State.setStandings_pending (s : State) (x : Standings) : (s.setStandings x).pending = s.pending := rfl

/-! ### After `setBoard` -/

@[simp] theorem State.setBoard_list (s : State) (x : Board) : (s.setBoard x).list = s.list := rfl
@[simp] theorem State.setBoard_engine (s : State) (x : Board) : (s.setBoard x).engine = s.engine := rfl
@[simp] theorem State.setBoard_arbiter (s : State) (x : Board) : (s.setBoard x).arbiter = s.arbiter := rfl
@[simp] theorem State.setBoard_consoles (s : State) (x : Board) : (s.setBoard x).consoles = s.consoles := rfl
@[simp] theorem State.setBoard_intake (s : State) (x : Board) : (s.setBoard x).intake = s.intake := rfl
@[simp] theorem State.setBoard_answers (s : State) (x : Board) : (s.setBoard x).answers = s.answers := rfl
@[simp] theorem State.setBoard_standings (s : State) (x : Board) : (s.setBoard x).standings = s.standings := rfl
@[simp] theorem State.setBoard_board (s : State) (x : Board) : (s.setBoard x).board = x := rfl
@[simp] theorem State.setBoard_link (s : State) (x : Board) : (s.setBoard x).link = s.link := rfl
@[simp] theorem State.setBoard_free (s : State) (x : Board) : (s.setBoard x).free = s.free := rfl
@[simp] theorem State.setBoard_pending (s : State) (x : Board) : (s.setBoard x).pending = s.pending := rfl

/-! ### After `setLink` -/

@[simp] theorem State.setLink_list (s : State) (x : Link) : (s.setLink x).list = s.list := rfl
@[simp] theorem State.setLink_engine (s : State) (x : Link) : (s.setLink x).engine = s.engine := rfl
@[simp] theorem State.setLink_arbiter (s : State) (x : Link) : (s.setLink x).arbiter = s.arbiter := rfl
@[simp] theorem State.setLink_consoles (s : State) (x : Link) : (s.setLink x).consoles = s.consoles := rfl
@[simp] theorem State.setLink_intake (s : State) (x : Link) : (s.setLink x).intake = s.intake := rfl
@[simp] theorem State.setLink_answers (s : State) (x : Link) : (s.setLink x).answers = s.answers := rfl
@[simp] theorem State.setLink_standings (s : State) (x : Link) : (s.setLink x).standings = s.standings := rfl
@[simp] theorem State.setLink_board (s : State) (x : Link) : (s.setLink x).board = s.board := rfl
@[simp] theorem State.setLink_link (s : State) (x : Link) : (s.setLink x).link = x := rfl
@[simp] theorem State.setLink_free (s : State) (x : Link) : (s.setLink x).free = s.free := rfl
@[simp] theorem State.setLink_pending (s : State) (x : Link) : (s.setLink x).pending = s.pending := rfl

/-! ### After `setFree` -/

@[simp] theorem State.setFree_list (s : State) (x : Nat) : (s.setFree x).list = s.list := rfl
@[simp] theorem State.setFree_engine (s : State) (x : Nat) : (s.setFree x).engine = s.engine := rfl
@[simp] theorem State.setFree_arbiter (s : State) (x : Nat) : (s.setFree x).arbiter = s.arbiter := rfl
@[simp] theorem State.setFree_consoles (s : State) (x : Nat) : (s.setFree x).consoles = s.consoles := rfl
@[simp] theorem State.setFree_intake (s : State) (x : Nat) : (s.setFree x).intake = s.intake := rfl
@[simp] theorem State.setFree_answers (s : State) (x : Nat) : (s.setFree x).answers = s.answers := rfl
@[simp] theorem State.setFree_standings (s : State) (x : Nat) : (s.setFree x).standings = s.standings := rfl
@[simp] theorem State.setFree_board (s : State) (x : Nat) : (s.setFree x).board = s.board := rfl
@[simp] theorem State.setFree_link (s : State) (x : Nat) : (s.setFree x).link = s.link := rfl
@[simp] theorem State.setFree_free (s : State) (x : Nat) : (s.setFree x).free = x := rfl
@[simp] theorem State.setFree_pending (s : State) (x : Nat) : (s.setFree x).pending = s.pending := rfl

/-! ### After `setPending` -/

@[simp] theorem State.setPending_list (s : State) (x : List Instr) : (s.setPending x).list = s.list := rfl
@[simp] theorem State.setPending_engine (s : State) (x : List Instr) : (s.setPending x).engine = s.engine := rfl
@[simp] theorem State.setPending_arbiter (s : State) (x : List Instr) : (s.setPending x).arbiter = s.arbiter := rfl
@[simp] theorem State.setPending_consoles (s : State) (x : List Instr) : (s.setPending x).consoles = s.consoles := rfl
@[simp] theorem State.setPending_intake (s : State) (x : List Instr) : (s.setPending x).intake = s.intake := rfl
@[simp] theorem State.setPending_answers (s : State) (x : List Instr) : (s.setPending x).answers = s.answers := rfl
@[simp] theorem State.setPending_standings (s : State) (x : List Instr) : (s.setPending x).standings = s.standings := rfl
@[simp] theorem State.setPending_board (s : State) (x : List Instr) : (s.setPending x).board = s.board := rfl
@[simp] theorem State.setPending_link (s : State) (x : List Instr) : (s.setPending x).link = s.link := rfl
@[simp] theorem State.setPending_free (s : State) (x : List Instr) : (s.setPending x).free = s.free := rfl
@[simp] theorem State.setPending_pending (s : State) (x : List Instr) : (s.setPending x).pending = x := rfl

/-- Two states with the same units, the same counter and the same queue are the same. -/
theorem State.ext_units {s t : State} (h1 : s.list = t.list) (h2 : s.engine = t.engine) (h3 : s.arbiter = t.arbiter)
    (h4 : s.consoles = t.consoles) (h5 : s.intake = t.intake) (h6 : s.answers = t.answers)
    (h7 : s.standings = t.standings) (h8 : s.board = t.board) (h9 : s.link = t.link) (h10 : s.free = t.free)
    (h11 : s.pending = t.pending) : s = t := by
  cases s; cases t; simp_all

end Sys2Proof.Machine
end

