-- ==== Sys2Proof/Laws/Events.lean ====
section
/-! SUPPORT. The units that raising an event and the control link's operations leave as they are. Each lemma says it once for one operation and is tagged `simp`. -/

namespace Sys2Proof.Machine

@[simp] theorem State.raise_frame (s : State) (e : Event) :
    (s.raise e).list = s.list ∧ (s.raise e).engine = s.engine ∧ (s.raise e).arbiter = s.arbiter ∧
    (s.raise e).consoles = s.consoles ∧ (s.raise e).intake = s.intake ∧ (s.raise e).answers = s.answers ∧
    (s.raise e).standings = s.standings ∧ (s.raise e).board = s.board ∧ (s.raise e).free = s.free ∧
    (s.raise e).pending = s.pending := ⟨rfl, rfl, rfl, rfl, rfl, rfl, rfl, rfl, rfl, rfl⟩

@[simp] theorem State.raiseAll_frame (s : State) (es : List Event) :
    (s.raiseAll es).list = s.list ∧ (s.raiseAll es).engine = s.engine ∧ (s.raiseAll es).arbiter = s.arbiter ∧
    (s.raiseAll es).consoles = s.consoles ∧ (s.raiseAll es).intake = s.intake ∧ (s.raiseAll es).answers = s.answers ∧
    (s.raiseAll es).standings = s.standings ∧ (s.raiseAll es).board = s.board ∧ (s.raiseAll es).free = s.free ∧
    (s.raiseAll es).pending = s.pending := by
  induction es generalizing s with
  | nil => simp [State.raiseAll]
  | cons e es ih => simpa [State.raiseAll] using ih (s.raise e)

@[simp] theorem State.mapContext_frame (s : State) (f : Context → Context) :
    (s.mapContext f).list = s.list ∧ (s.mapContext f).arbiter = s.arbiter ∧ (s.mapContext f).consoles = s.consoles ∧
    (s.mapContext f).intake = s.intake ∧ (s.mapContext f).answers = s.answers ∧
    (s.mapContext f).standings = s.standings ∧ (s.mapContext f).board = s.board ∧ (s.mapContext f).link = s.link ∧
    (s.mapContext f).free = s.free ∧ (s.mapContext f).pending = s.pending := ⟨rfl, rfl, rfl, rfl, rfl, rfl, rfl, rfl, rfl, rfl⟩

@[simp] theorem State.enter_frame (s : State) (x : EngineState) :
    (s.enter x).list = s.list ∧ (s.enter x).arbiter = s.arbiter ∧ (s.enter x).consoles = s.consoles ∧
    (s.enter x).intake = s.intake ∧ (s.enter x).answers = s.answers ∧ (s.enter x).standings = s.standings ∧
    (s.enter x).board = s.board ∧ (s.enter x).link = s.link ∧ (s.enter x).free = s.free ∧
    (s.enter x).pending = s.pending := ⟨rfl, rfl, rfl, rfl, rfl, rfl, rfl, rfl, rfl, rfl⟩

@[simp] theorem State.setSlot_frame (s : State) (k : Fin 128) (x : Slot) :
    (s.setSlot k x).engine = s.engine ∧ (s.setSlot k x).arbiter = s.arbiter ∧ (s.setSlot k x).consoles = s.consoles ∧
    (s.setSlot k x).intake = s.intake ∧ (s.setSlot k x).answers = s.answers ∧
    (s.setSlot k x).standings = s.standings ∧ (s.setSlot k x).board = s.board ∧ (s.setSlot k x).link = s.link ∧
    (s.setSlot k x).free = s.free ∧ (s.setSlot k x).pending = s.pending := ⟨rfl, rfl, rfl, rfl, rfl, rfl, rfl, rfl, rfl, rfl⟩

@[simp] theorem State.setLineAt_frame (s : State) (n : Nat) (x : LineRecord) :
    (s.setLineAt n x).list = s.list ∧ (s.setLineAt n x).engine = s.engine ∧ (s.setLineAt n x).arbiter = s.arbiter ∧
    (s.setLineAt n x).intake = s.intake ∧ (s.setLineAt n x).answers = s.answers ∧
    (s.setLineAt n x).standings = s.standings ∧ (s.setLineAt n x).board = s.board ∧ (s.setLineAt n x).link = s.link ∧
    (s.setLineAt n x).free = s.free ∧ (s.setLineAt n x).pending = s.pending := ⟨rfl, rfl, rfl, rfl, rfl, rfl, rfl, rfl, rfl, rfl⟩

@[simp] theorem State.setFloorLamp_frame (s : State) (t : Nat) (x : LampState) :
    (s.setFloorLamp t x).list = s.list ∧ (s.setFloorLamp t x).engine = s.engine ∧
    (s.setFloorLamp t x).arbiter = s.arbiter ∧ (s.setFloorLamp t x).intake = s.intake ∧
    (s.setFloorLamp t x).answers = s.answers ∧ (s.setFloorLamp t x).standings = s.standings ∧
    (s.setFloorLamp t x).board = s.board ∧ (s.setFloorLamp t x).link = s.link ∧ (s.setFloorLamp t x).free = s.free ∧
    (s.setFloorLamp t x).pending = s.pending := ⟨rfl, rfl, rfl, rfl, rfl, rfl, rfl, rfl, rfl, rfl⟩

@[simp] theorem State.setLockLamp_frame (s : State) (t : Nat) (x : LampState) :
    (s.setLockLamp t x).list = s.list ∧ (s.setLockLamp t x).engine = s.engine ∧
    (s.setLockLamp t x).arbiter = s.arbiter ∧ (s.setLockLamp t x).intake = s.intake ∧
    (s.setLockLamp t x).answers = s.answers ∧ (s.setLockLamp t x).standings = s.standings ∧
    (s.setLockLamp t x).board = s.board ∧ (s.setLockLamp t x).link = s.link ∧ (s.setLockLamp t x).free = s.free ∧
    (s.setLockLamp t x).pending = s.pending := ⟨rfl, rfl, rfl, rfl, rfl, rfl, rfl, rfl, rfl, rfl⟩

@[simp] theorem State.lampsOff_frame (s : State) :
    (s.lampsOff).list = s.list ∧ (s.lampsOff).engine = s.engine ∧ (s.lampsOff).arbiter = s.arbiter ∧
    (s.lampsOff).intake = s.intake ∧ (s.lampsOff).answers = s.answers ∧ (s.lampsOff).standings = s.standings ∧
    (s.lampsOff).board = s.board ∧ (s.lampsOff).link = s.link ∧ (s.lampsOff).free = s.free ∧
    (s.lampsOff).pending = s.pending := ⟨rfl, rfl, rfl, rfl, rfl, rfl, rfl, rfl, rfl, rfl⟩

@[simp] theorem State.setReceiverAt_frame (s : State) (r : Nat) (x : Receiver) :
    (s.setReceiverAt r x).list = s.list ∧ (s.setReceiverAt r x).engine = s.engine ∧
    (s.setReceiverAt r x).arbiter = s.arbiter ∧ (s.setReceiverAt r x).consoles = s.consoles ∧
    (s.setReceiverAt r x).answers = s.answers ∧ (s.setReceiverAt r x).standings = s.standings ∧
    (s.setReceiverAt r x).board = s.board ∧ (s.setReceiverAt r x).link = s.link ∧
    (s.setReceiverAt r x).free = s.free ∧ (s.setReceiverAt r x).pending = s.pending := ⟨rfl, rfl, rfl, rfl, rfl, rfl, rfl, rfl, rfl, rfl⟩

@[simp] theorem State.tellOverflow_frame (s : State) :
    (s.tellOverflow).list = s.list ∧ (s.tellOverflow).engine = s.engine ∧ (s.tellOverflow).arbiter = s.arbiter ∧
    (s.tellOverflow).consoles = s.consoles ∧ (s.tellOverflow).intake = s.intake ∧
    (s.tellOverflow).answers = s.answers ∧ (s.tellOverflow).standings = s.standings ∧
    (s.tellOverflow).board = s.board ∧ (s.tellOverflow).free = s.free ∧ (s.tellOverflow).pending = s.pending := by
  unfold State.tellOverflow; repeat' split
  all_goals simp

@[simp] theorem State.reply_frame (s : State) (r : Reply) :
    (s.reply r).list = s.list ∧ (s.reply r).engine = s.engine ∧ (s.reply r).arbiter = s.arbiter ∧
    (s.reply r).consoles = s.consoles ∧ (s.reply r).intake = s.intake ∧ (s.reply r).answers = s.answers ∧
    (s.reply r).standings = s.standings ∧ (s.reply r).board = s.board ∧ (s.reply r).free = s.free ∧
    (s.reply r).pending = s.pending := ⟨rfl, rfl, rfl, rfl, rfl, rfl, rfl, rfl, rfl, rfl⟩

@[simp] theorem State.linkWaits_frame (s : State) :
    (s.linkWaits).list = s.list ∧ (s.linkWaits).engine = s.engine ∧ (s.linkWaits).arbiter = s.arbiter ∧
    (s.linkWaits).consoles = s.consoles ∧ (s.linkWaits).intake = s.intake ∧ (s.linkWaits).answers = s.answers ∧
    (s.linkWaits).standings = s.standings ∧ (s.linkWaits).board = s.board ∧ (s.linkWaits).free = s.free ∧
    (s.linkWaits).pending = s.pending := ⟨rfl, rfl, rfl, rfl, rfl, rfl, rfl, rfl, rfl, rfl⟩

@[simp] theorem State.frameComplete_frame (s : State) (f : LinkFrame) :
    (s.frameComplete f).list = s.list ∧ (s.frameComplete f).engine = s.engine ∧
    (s.frameComplete f).arbiter = s.arbiter ∧ (s.frameComplete f).consoles = s.consoles ∧
    (s.frameComplete f).intake = s.intake ∧ (s.frameComplete f).answers = s.answers ∧
    (s.frameComplete f).standings = s.standings ∧ (s.frameComplete f).board = s.board ∧
    (s.frameComplete f).free = s.free ∧ (s.frameComplete f).pending = s.pending := by
  unfold State.frameComplete; repeat' split
  all_goals simp

@[simp] theorem State.linkByteOutside_frame (s : State) (b : Byte) :
    (s.linkByteOutside b).list = s.list ∧ (s.linkByteOutside b).engine = s.engine ∧
    (s.linkByteOutside b).arbiter = s.arbiter ∧ (s.linkByteOutside b).consoles = s.consoles ∧
    (s.linkByteOutside b).intake = s.intake ∧ (s.linkByteOutside b).answers = s.answers ∧
    (s.linkByteOutside b).standings = s.standings ∧ (s.linkByteOutside b).board = s.board ∧
    (s.linkByteOutside b).free = s.free ∧ (s.linkByteOutside b).pending = s.pending := by
  unfold State.linkByteOutside; repeat' split
  all_goals simp

@[simp] theorem State.linkByteInside_frame (s : State) (received : List Byte) (b : Byte) :
    (s.linkByteInside received b).list = s.list ∧ (s.linkByteInside received b).engine = s.engine ∧
    (s.linkByteInside received b).arbiter = s.arbiter ∧ (s.linkByteInside received b).consoles = s.consoles ∧
    (s.linkByteInside received b).intake = s.intake ∧ (s.linkByteInside received b).answers = s.answers ∧
    (s.linkByteInside received b).standings = s.standings ∧ (s.linkByteInside received b).board = s.board ∧
    (s.linkByteInside received b).free = s.free ∧ (s.linkByteInside received b).pending = s.pending := by
  unfold State.linkByteInside; repeat' split
  all_goals simp

@[simp] theorem State.linkGapAbandon_frame (s : State) (received : List Byte) :
    (s.linkGapAbandon received).list = s.list ∧ (s.linkGapAbandon received).engine = s.engine ∧
    (s.linkGapAbandon received).arbiter = s.arbiter ∧ (s.linkGapAbandon received).consoles = s.consoles ∧
    (s.linkGapAbandon received).intake = s.intake ∧ (s.linkGapAbandon received).answers = s.answers ∧
    (s.linkGapAbandon received).standings = s.standings ∧ (s.linkGapAbandon received).board = s.board ∧
    (s.linkGapAbandon received).free = s.free ∧ (s.linkGapAbandon received).pending = s.pending := ⟨rfl, rfl, rfl, rfl, rfl, rfl, rfl, rfl, rfl, rfl⟩

@[simp] theorem State.listenByte_frame (s : State) (b : Byte) :
    (s.listenByte b).list = s.list ∧ (s.listenByte b).engine = s.engine ∧ (s.listenByte b).arbiter = s.arbiter ∧
    (s.listenByte b).consoles = s.consoles ∧ (s.listenByte b).intake = s.intake ∧
    (s.listenByte b).answers = s.answers ∧ (s.listenByte b).standings = s.standings ∧
    (s.listenByte b).board = s.board ∧ (s.listenByte b).free = s.free ∧ (s.listenByte b).pending = s.pending := by
  unfold State.listenByte State.selectMode; repeat' split
  all_goals simp

@[simp] theorem State.linkByte_frame (s : State) (b : Byte) :
    (s.linkByte b).list = s.list ∧ (s.linkByte b).engine = s.engine ∧ (s.linkByte b).arbiter = s.arbiter ∧
    (s.linkByte b).consoles = s.consoles ∧ (s.linkByte b).intake = s.intake ∧ (s.linkByte b).answers = s.answers ∧
    (s.linkByte b).standings = s.standings ∧ (s.linkByte b).board = s.board ∧ (s.linkByte b).free = s.free ∧
    (s.linkByte b).pending = s.pending := by
  unfold State.linkByte; repeat' split
  all_goals simp

@[simp] theorem State.linkBytes_frame (s : State) (bytes : List Byte) :
    (s.linkBytes bytes).list = s.list ∧ (s.linkBytes bytes).engine = s.engine ∧
    (s.linkBytes bytes).arbiter = s.arbiter ∧ (s.linkBytes bytes).consoles = s.consoles ∧
    (s.linkBytes bytes).intake = s.intake ∧ (s.linkBytes bytes).answers = s.answers ∧
    (s.linkBytes bytes).standings = s.standings ∧ (s.linkBytes bytes).board = s.board ∧
    (s.linkBytes bytes).free = s.free ∧ (s.linkBytes bytes).pending = s.pending := by
  induction bytes generalizing s with
  | nil => simp [State.linkBytes]
  | cons x xs ih => simpa [State.linkBytes] using ih (s.linkByte x)

@[simp] theorem State.receiveFrame_frame (s : State) (f : LinkFrame) :
    (s.receiveFrame f).list = s.list ∧ (s.receiveFrame f).engine = s.engine ∧ (s.receiveFrame f).arbiter = s.arbiter ∧
    (s.receiveFrame f).consoles = s.consoles ∧ (s.receiveFrame f).intake = s.intake ∧
    (s.receiveFrame f).answers = s.answers ∧ (s.receiveFrame f).standings = s.standings ∧
    (s.receiveFrame f).board = s.board ∧ (s.receiveFrame f).free = s.free ∧ (s.receiveFrame f).pending = s.pending := by
  unfold State.receiveFrame; repeat' split
  all_goals simp

@[simp] theorem State.bring_frame (s : State) (i : Instr) :
    (s.bring i).list = s.list ∧ (s.bring i).engine = s.engine ∧ (s.bring i).arbiter = s.arbiter ∧
    (s.bring i).consoles = s.consoles ∧ (s.bring i).intake = s.intake ∧ (s.bring i).answers = s.answers ∧
    (s.bring i).standings = s.standings ∧ (s.bring i).board = s.board ∧ (s.bring i).free = s.free ∧
    (s.bring i).pending = s.pending := by
  unfold State.bring; repeat' split
  all_goals simp

@[simp] theorem State.bringFrame_frame (s : State) (f : LinkFrame) :
    (s.bringFrame f).list = s.list ∧ (s.bringFrame f).engine = s.engine ∧ (s.bringFrame f).arbiter = s.arbiter ∧
    (s.bringFrame f).consoles = s.consoles ∧ (s.bringFrame f).intake = s.intake ∧
    (s.bringFrame f).answers = s.answers ∧ (s.bringFrame f).standings = s.standings ∧
    (s.bringFrame f).board = s.board ∧ (s.bringFrame f).free = s.free ∧ (s.bringFrame f).pending = s.pending := by
  unfold State.bringFrame; repeat' split
  all_goals simp

end Sys2Proof.Machine
end

