-- ==== Sys2Proof/Laws/Floor.lean ====
section
/-! SUPPORT. The units that the Round List, the Standings Unit and the Floor Arbiter leave as they are, operation by
operation. Each lemma says it once for one operation and is tagged `simp`. -/

namespace Sys2Proof.Machine

@[simp] theorem State.scoreChange_frame (s : State) (q : ScoreRequest) :
    (s.scoreChange q).list = s.list ∧ (s.scoreChange q).engine = s.engine ∧ (s.scoreChange q).arbiter = s.arbiter ∧
    (s.scoreChange q).consoles = s.consoles ∧ (s.scoreChange q).intake = s.intake ∧
    (s.scoreChange q).answers = s.answers ∧ (s.scoreChange q).board = s.board ∧ (s.scoreChange q).free = s.free ∧
    (s.scoreChange q).pending = s.pending := ⟨rfl, rfl, rfl, rfl, rfl, rfl, rfl, rfl, rfl⟩

@[simp] theorem State.cueAt_frame (s : State) (j : Fin 128) :
    (s.cueAt j).arbiter = s.arbiter ∧ (s.cueAt j).consoles = s.consoles ∧ (s.cueAt j).intake = s.intake ∧
    (s.cueAt j).answers = s.answers ∧ (s.cueAt j).standings = s.standings ∧ (s.cueAt j).board = s.board ∧
    (s.cueAt j).free = s.free ∧ (s.cueAt j).pending = s.pending := ⟨rfl, rfl, rfl, rfl, rfl, rfl, rfl, rfl⟩

@[simp] theorem State.parkAt_frame (s : State) (k : Fin 128) (reason : ParkReason) (basis : ParkBasis) :
    (s.parkAt k reason basis).arbiter = s.arbiter ∧ (s.parkAt k reason basis).consoles = s.consoles ∧
    (s.parkAt k reason basis).intake = s.intake ∧ (s.parkAt k reason basis).answers = s.answers ∧
    (s.parkAt k reason basis).standings = s.standings ∧ (s.parkAt k reason basis).board = s.board ∧
    (s.parkAt k reason basis).free = s.free ∧ (s.parkAt k reason basis).pending = s.pending := ⟨rfl, rfl, rfl, rfl, rfl, rfl, rfl, rfl⟩

@[simp] theorem State.followFrom_frame (s : State) (k : Fin 128) :
    (s.followFrom k).arbiter = s.arbiter ∧ (s.followFrom k).consoles = s.consoles ∧
    (s.followFrom k).intake = s.intake ∧ (s.followFrom k).answers = s.answers ∧
    (s.followFrom k).standings = s.standings ∧ (s.followFrom k).board = s.board ∧ (s.followFrom k).free = s.free ∧
    (s.followFrom k).pending = s.pending := by
  unfold State.followFrom; repeat' split
  all_goals simp

@[simp] theorem State.examine_frame (s : State) (k : Fin 128) :
    (s.examine k).arbiter = s.arbiter ∧ (s.examine k).consoles = s.consoles ∧ (s.examine k).intake = s.intake ∧
    (s.examine k).answers = s.answers ∧ (s.examine k).standings = s.standings ∧ (s.examine k).board = s.board ∧
    (s.examine k).free = s.free ∧ (s.examine k).pending = s.pending := by
  unfold State.examine; repeat' split
  all_goals simp

@[simp] theorem State.reexamine_frame (s : State) :
    (s.reexamine).arbiter = s.arbiter ∧ (s.reexamine).consoles = s.consoles ∧ (s.reexamine).intake = s.intake ∧
    (s.reexamine).answers = s.answers ∧ (s.reexamine).standings = s.standings ∧ (s.reexamine).board = s.board ∧
    (s.reexamine).free = s.free ∧ (s.reexamine).pending = s.pending := by
  unfold State.reexamine; repeat' split
  all_goals simp

@[simp] theorem State.writeOutcome_frame (s : State) (k : Fin 128) (r : RoundResult) :
    (s.writeOutcome k r).engine = s.engine ∧ (s.writeOutcome k r).arbiter = s.arbiter ∧
    (s.writeOutcome k r).consoles = s.consoles ∧ (s.writeOutcome k r).intake = s.intake ∧
    (s.writeOutcome k r).answers = s.answers ∧ (s.writeOutcome k r).standings = s.standings ∧
    (s.writeOutcome k r).board = s.board ∧ (s.writeOutcome k r).link = s.link ∧ (s.writeOutcome k r).free = s.free ∧
    (s.writeOutcome k r).pending = s.pending := ⟨rfl, rfl, rfl, rfl, rfl, rfl, rfl, rfl, rfl, rfl⟩

@[simp] theorem State.stopRound_frame (s : State) :
    (s.stopRound).list = s.list ∧ (s.stopRound).intake = s.intake ∧ (s.stopRound).answers = s.answers ∧
    (s.stopRound).standings = s.standings ∧ (s.stopRound).board = s.board ∧ (s.stopRound).link = s.link ∧
    (s.stopRound).free = s.free ∧ (s.stopRound).pending = s.pending := ⟨rfl, rfl, rfl, rfl, rfl, rfl, rfl, rfl⟩

@[simp] theorem State.closeRound_frame (s : State) (o : RoundOutcome) (w : Option Nat) :
    (s.closeRound o w).intake = s.intake ∧ (s.closeRound o w).answers = s.answers ∧
    (s.closeRound o w).standings = s.standings ∧ (s.closeRound o w).board = s.board ∧
    (s.closeRound o w).free = s.free ∧ (s.closeRound o w).pending = s.pending := ⟨rfl, rfl, rfl, rfl, rfl, rfl⟩

@[simp] theorem State.close_frame (s : State) (o : RoundOutcome) :
    (s.close o).intake = s.intake ∧ (s.close o).answers = s.answers ∧ (s.close o).standings = s.standings ∧
    (s.close o).board = s.board ∧ (s.close o).free = s.free ∧ (s.close o).pending = s.pending := by simp [State.close]

@[simp] theorem State.beginBlink_frame (s : State) (t : Nat) :
    (s.beginBlink t).list = s.list ∧ (s.beginBlink t).engine = s.engine ∧ (s.beginBlink t).arbiter = s.arbiter ∧
    (s.beginBlink t).consoles = s.consoles ∧ (s.beginBlink t).intake = s.intake ∧
    (s.beginBlink t).answers = s.answers ∧ (s.beginBlink t).standings = s.standings ∧ (s.beginBlink t).link = s.link ∧
    (s.beginBlink t).free = s.free ∧ (s.beginBlink t).pending = s.pending := by
  unfold State.beginBlink; repeat' split
  all_goals simp

@[simp] theorem State.closeWon_frame (s : State) (w : Nat) :
    (s.closeWon w).intake = s.intake ∧ (s.closeWon w).answers = s.answers ∧ (s.closeWon w).standings = s.standings ∧
    (s.closeWon w).free = s.free ∧ (s.closeWon w).pending = s.pending := by simp [State.closeWon]

@[simp] theorem State.setQueue_frame (s : State) (q : List QueuedClaim) :
    (s.setQueue q).list = s.list ∧ (s.setQueue q).engine = s.engine ∧ (s.setQueue q).consoles = s.consoles ∧
    (s.setQueue q).intake = s.intake ∧ (s.setQueue q).answers = s.answers ∧ (s.setQueue q).standings = s.standings ∧
    (s.setQueue q).board = s.board ∧ (s.setQueue q).link = s.link ∧ (s.setQueue q).free = s.free ∧
    (s.setQueue q).pending = s.pending := ⟨rfl, rfl, rfl, rfl, rfl, rfl, rfl, rfl, rfl, rfl⟩

@[simp] theorem State.grant_frame (s : State) (c : QueuedClaim) (rest : List QueuedClaim) :
    (s.grant c rest).list = s.list ∧ (s.grant c rest).intake = s.intake ∧ (s.grant c rest).answers = s.answers ∧
    (s.grant c rest).standings = s.standings ∧ (s.grant c rest).board = s.board ∧ (s.grant c rest).free = s.free ∧
    (s.grant c rest).pending = s.pending := ⟨rfl, rfl, rfl, rfl, rfl, rfl, rfl⟩

@[simp] theorem State.testGrant_frame (s : State) :
    (s.testGrant).intake = s.intake ∧ (s.testGrant).answers = s.answers ∧ (s.testGrant).standings = s.standings ∧
    (s.testGrant).board = s.board ∧ (s.testGrant).free = s.free ∧ (s.testGrant).pending = s.pending := by
  unfold State.testGrant; repeat' split
  all_goals simp

@[simp] theorem State.lockTeam_frame (s : State) (t : Nat) (reason : LockReason) :
    (s.lockTeam t reason).list = s.list ∧ (s.lockTeam t reason).arbiter = s.arbiter ∧
    (s.lockTeam t reason).intake = s.intake ∧ (s.lockTeam t reason).answers = s.answers ∧
    (s.lockTeam t reason).standings = s.standings ∧ (s.lockTeam t reason).board = s.board ∧
    (s.lockTeam t reason).link = s.link ∧ (s.lockTeam t reason).free = s.free ∧
    (s.lockTeam t reason).pending = s.pending := ⟨rfl, rfl, rfl, rfl, rfl, rfl, rfl, rfl, rfl⟩

@[simp] theorem State.useStamp_frame (s : State) (stamp : Int) :
    (s.useStamp stamp).list = s.list ∧ (s.useStamp stamp).engine = s.engine ∧ (s.useStamp stamp).arbiter = s.arbiter ∧
    (s.useStamp stamp).consoles = s.consoles ∧ (s.useStamp stamp).intake = s.intake ∧
    (s.useStamp stamp).answers = s.answers ∧ (s.useStamp stamp).standings = s.standings ∧
    (s.useStamp stamp).board = s.board ∧ (s.useStamp stamp).link = s.link ∧ (s.useStamp stamp).pending = s.pending := by
  unfold State.useStamp; repeat' split
  all_goals simp

@[simp] theorem State.tellRefusal_frame (s : State) (o : Offer) (x : ClaimOutcome) :
    (s.tellRefusal o x).list = s.list ∧ (s.tellRefusal o x).engine = s.engine ∧
    (s.tellRefusal o x).arbiter = s.arbiter ∧ (s.tellRefusal o x).consoles = s.consoles ∧
    (s.tellRefusal o x).intake = s.intake ∧ (s.tellRefusal o x).answers = s.answers ∧
    (s.tellRefusal o x).standings = s.standings ∧ (s.tellRefusal o x).board = s.board ∧
    (s.tellRefusal o x).pending = s.pending := by simp [State.tellRefusal]

@[simp] theorem State.place_frame (s : State) (o : Offer) (x : ClaimOutcome) (c : QueuedClaim) (old : Option Nat) :
    (s.place o x c old).list = s.list ∧ (s.place o x c old).engine = s.engine ∧
    (s.place o x c old).consoles = s.consoles ∧ (s.place o x c old).intake = s.intake ∧
    (s.place o x c old).answers = s.answers ∧ (s.place o x c old).standings = s.standings ∧
    (s.place o x c old).board = s.board ∧ (s.place o x c old).free = s.free ∧
    (s.place o x c old).pending = s.pending := ⟨rfl, rfl, rfl, rfl, rfl, rfl, rfl, rfl, rfl⟩

@[simp] theorem State.settleFromOpen_frame (s : State) :
    (s.settleFromOpen).list = s.list ∧ (s.settleFromOpen).arbiter = s.arbiter ∧
    (s.settleFromOpen).consoles = s.consoles ∧ (s.settleFromOpen).intake = s.intake ∧
    (s.settleFromOpen).answers = s.answers ∧ (s.settleFromOpen).standings = s.standings ∧
    (s.settleFromOpen).board = s.board ∧ (s.settleFromOpen).link = s.link ∧ (s.settleFromOpen).free = s.free ∧
    (s.settleFromOpen).pending = s.pending := by
  unfold State.settleFromOpen; repeat' split
  all_goals simp

/-- The engine state, or the remembered one, is OPEN. -/
theorem State.phase_eq_opened {s : State} :
    s.phase = .opened ↔
      s.engine.state = .opened ∨ (s.engine.state = .paused ∧ s.engine.remembered = some .opened) := by
  unfold State.phase
  cases s.engine.state <;> cases s.engine.remembered <;> simp

/-- The engine after the change to SETTLING that an admission calls for has been made, or has been left due (R36,
R45). -/
theorem State.settleFromOpen_engine (s : State) :
    (s.settleFromOpen).engine =
      { s.engine with
        state := if s.engine.state = .opened then .settling else s.engine.state
        round := s.engine.round.map fun c =>
          { c with settleDue := c.settleDue || (s.engine.state = .paused && s.phase = .opened) } } := by
  by_cases h : s.engine.state = .opened
  · simp [State.settleFromOpen, State.enter, h]
  · by_cases hp : s.phase = .opened
    · have hs : s.engine.state = .paused := by
        rcases State.phase_eq_opened.1 hp with h1 | ⟨h1, _⟩
        · exact absurd h1 h
        · exact h1
      simp [State.settleFromOpen, State.mapContext, hp, hs]
    · simp [State.settleFromOpen, hp, h]

@[simp] theorem State.admit_frame (s : State) (o : Offer) :
    (s.admitClaim o).intake = s.intake ∧ (s.admitClaim o).answers = s.answers ∧ (s.admitClaim o).standings = s.standings ∧
    (s.admitClaim o).board = s.board ∧ (s.admitClaim o).free = s.free ∧ (s.admitClaim o).pending = s.pending := by simp [State.admitClaim]

@[simp] theorem State.replace_frame (s : State) (o : Offer) :
    (s.replace o).intake = s.intake ∧ (s.replace o).answers = s.answers ∧ (s.replace o).standings = s.standings ∧
    (s.replace o).board = s.board ∧ (s.replace o).free = s.free ∧ (s.replace o).pending = s.pending := by
  unfold State.replace; repeat' split
  all_goals simp

@[simp] theorem State.penalise_frame (s : State) (t : Nat) :
    (s.penalise t).list = s.list ∧ (s.penalise t).engine = s.engine ∧ (s.penalise t).arbiter = s.arbiter ∧
    (s.penalise t).consoles = s.consoles ∧ (s.penalise t).intake = s.intake ∧ (s.penalise t).answers = s.answers ∧
    (s.penalise t).board = s.board ∧ (s.penalise t).free = s.free ∧ (s.penalise t).pending = s.pending := ⟨rfl, rfl, rfl, rfl, rfl, rfl, rfl, rfl, rfl⟩

@[simp] theorem State.withdrawLocked_frame (s : State) (t : Nat) :
    (s.withdrawLocked t).list = s.list ∧ (s.withdrawLocked t).engine = s.engine ∧
    (s.withdrawLocked t).consoles = s.consoles ∧ (s.withdrawLocked t).intake = s.intake ∧
    (s.withdrawLocked t).answers = s.answers ∧ (s.withdrawLocked t).standings = s.standings ∧
    (s.withdrawLocked t).board = s.board ∧ (s.withdrawLocked t).free = s.free ∧
    (s.withdrawLocked t).pending = s.pending := by
  unfold State.withdrawLocked; repeat' split
  all_goals simp

@[simp] theorem State.falseStartLock_frame (s : State) (o : Offer) :
    (s.falseStartLock o).intake = s.intake ∧ (s.falseStartLock o).answers = s.answers ∧
    (s.falseStartLock o).standings = s.standings ∧ (s.falseStartLock o).board = s.board ∧
    (s.falseStartLock o).pending = s.pending := by
  unfold State.falseStartLock; repeat' split
  all_goals simp

@[simp] theorem State.falseStartPenalise_frame (s : State) (o : Offer) :
    (s.falseStartPenalise o).intake = s.intake ∧ (s.falseStartPenalise o).answers = s.answers ∧
    (s.falseStartPenalise o).board = s.board ∧ (s.falseStartPenalise o).pending = s.pending := by
  unfold State.falseStartPenalise; dsimp only; repeat' split
  all_goals simp

@[simp] theorem State.offer_frame (s : State) (o : Offer) :
    (s.offer o).intake = s.intake ∧ (s.offer o).answers = s.answers ∧ (s.offer o).board = s.board ∧
    (s.offer o).pending = s.pending := by
  unfold State.offer; repeat' split
  all_goals simp

@[simp] theorem State.withdrawLate_frame (s : State) :
    (s.withdrawLate).list = s.list ∧ (s.withdrawLate).engine = s.engine ∧ (s.withdrawLate).consoles = s.consoles ∧
    (s.withdrawLate).intake = s.intake ∧ (s.withdrawLate).answers = s.answers ∧
    (s.withdrawLate).standings = s.standings ∧ (s.withdrawLate).board = s.board ∧ (s.withdrawLate).free = s.free ∧
    (s.withdrawLate).pending = s.pending := by simp [State.withdrawLate]

@[simp] theorem State.clearFloor_frame (s : State) (t : Nat) :
    (s.clearFloor t).list = s.list ∧ (s.clearFloor t).arbiter = s.arbiter ∧ (s.clearFloor t).intake = s.intake ∧
    (s.clearFloor t).answers = s.answers ∧ (s.clearFloor t).standings = s.standings ∧
    (s.clearFloor t).board = s.board ∧ (s.clearFloor t).link = s.link ∧ (s.clearFloor t).free = s.free ∧
    (s.clearFloor t).pending = s.pending := ⟨rfl, rfl, rfl, rfl, rfl, rfl, rfl, rfl, rfl⟩

@[simp] theorem State.judgeRight_frame (s : State) (h : Holder) :
    (s.judgeRight h).intake = s.intake ∧ (s.judgeRight h).answers = s.answers ∧ (s.judgeRight h).free = s.free ∧
    (s.judgeRight h).pending = s.pending := by simp [State.judgeRight]

@[simp] theorem State.reboundQueue_frame (s : State) :
    (s.reboundQueue).intake = s.intake ∧ (s.reboundQueue).answers = s.answers ∧
    (s.reboundQueue).standings = s.standings ∧ (s.reboundQueue).board = s.board ∧ (s.reboundQueue).free = s.free ∧
    (s.reboundQueue).pending = s.pending := by
  unfold State.reboundQueue; repeat' split
  all_goals simp

@[simp] theorem State.reboundReopen_frame (s : State) :
    (s.reboundReopen).intake = s.intake ∧ (s.reboundReopen).answers = s.answers ∧
    (s.reboundReopen).standings = s.standings ∧ (s.reboundReopen).board = s.board ∧ (s.reboundReopen).free = s.free ∧
    (s.reboundReopen).pending = s.pending := by
  unfold State.reboundReopen; repeat' split
  all_goals simp

@[simp] theorem State.afterWrong_frame (s : State) (f : Follows) :
    (s.afterWrong f).intake = s.intake ∧ (s.afterWrong f).answers = s.answers ∧
    (s.afterWrong f).standings = s.standings ∧ (s.afterWrong f).board = s.board ∧ (s.afterWrong f).free = s.free ∧
    (s.afterWrong f).pending = s.pending := by
  unfold State.afterWrong; repeat' split
  all_goals simp

@[simp] theorem State.lockWrong_frame (s : State) (h : Holder) (v : Verdict) :
    (s.lockWrong h v).list = s.list ∧ (s.lockWrong h v).arbiter = s.arbiter ∧ (s.lockWrong h v).intake = s.intake ∧
    (s.lockWrong h v).answers = s.answers ∧ (s.lockWrong h v).standings = s.standings ∧
    (s.lockWrong h v).board = s.board ∧ (s.lockWrong h v).link = s.link ∧ (s.lockWrong h v).free = s.free ∧
    (s.lockWrong h v).pending = s.pending := by simp [State.lockWrong]

@[simp] theorem State.judgeWrong_frame (s : State) (h : Holder) (v : Verdict) :
    (s.judgeWrong h v).intake = s.intake ∧ (s.judgeWrong h v).answers = s.answers ∧
    (s.judgeWrong h v).board = s.board ∧ (s.judgeWrong h v).free = s.free ∧ (s.judgeWrong h v).pending = s.pending := by
  unfold State.judgeWrong; repeat' split
  all_goals simp

end Sys2Proof.Machine
end

