-- ==== Sys2Proof/Laws/Frames.lean ====
section
/-! SUPPORT. The units that the collector, the engine, the console lines, the intake, the boards and the resets leave as
they are, operation by operation. Each lemma says it once for one operation and is tagged `simp`. -/

namespace Sys2Proof.Machine

@[simp] theorem State.scoreChanges_frame (s : State) (qs : List ScoreRequest) :
    (s.scoreChanges qs).list = s.list ∧ (s.scoreChanges qs).engine = s.engine ∧
    (s.scoreChanges qs).arbiter = s.arbiter ∧ (s.scoreChanges qs).consoles = s.consoles ∧
    (s.scoreChanges qs).intake = s.intake ∧ (s.scoreChanges qs).answers = s.answers ∧
    (s.scoreChanges qs).board = s.board ∧ (s.scoreChanges qs).free = s.free ∧
    (s.scoreChanges qs).pending = s.pending := by
  induction qs generalizing s with
  | nil => simp [State.scoreChanges]
  | cons x xs ih => simpa [State.scoreChanges] using ih (s.scoreChange x)

@[simp] theorem State.setTally_frame (s : State) (st : TallyState) (y : Option Tally) :
    (s.setTally st y).list = s.list ∧ (s.setTally st y).engine = s.engine ∧ (s.setTally st y).arbiter = s.arbiter ∧
    (s.setTally st y).consoles = s.consoles ∧ (s.setTally st y).intake = s.intake ∧
    (s.setTally st y).standings = s.standings ∧ (s.setTally st y).board = s.board ∧ (s.setTally st y).link = s.link ∧
    (s.setTally st y).free = s.free ∧ (s.setTally st y).pending = s.pending := ⟨rfl, rfl, rfl, rfl, rfl, rfl, rfl, rfl, rfl, rfl⟩

@[simp] theorem State.answer_frame (s : State) (k : AnswerKey) :
    (s.answer k).list = s.list ∧ (s.answer k).engine = s.engine ∧ (s.answer k).arbiter = s.arbiter ∧
    (s.answer k).consoles = s.consoles ∧ (s.answer k).intake = s.intake ∧ (s.answer k).standings = s.standings ∧
    (s.answer k).board = s.board ∧ (s.answer k).free = s.free ∧ (s.answer k).pending = s.pending := by
  unfold State.answer; dsimp only; repeat' split
  all_goals simp

@[simp] theorem State.payShares_frame (s : State) (y : Tally) :
    (s.payShares y).intake = s.intake ∧ (s.payShares y).answers = s.answers ∧ (s.payShares y).board = s.board ∧
    (s.payShares y).free = s.free ∧ (s.payShares y).pending = s.pending := by simp [State.payShares]

@[simp] theorem State.completeChoice_frame (s : State) (y : Tally) :
    (s.completeChoice y).intake = s.intake ∧ (s.completeChoice y).board = s.board ∧
    (s.completeChoice y).free = s.free ∧ (s.completeChoice y).pending = s.pending := by
  unfold State.completeChoice; repeat' split
  all_goals simp

@[simp] theorem State.completeTally_frame (s : State) :
    (s.completeTally).intake = s.intake ∧ (s.completeTally).board = s.board ∧ (s.completeTally).free = s.free ∧
    (s.completeTally).pending = s.pending := by
  unfold State.completeTally; repeat' split
  all_goals simp

@[simp] theorem State.testTally_frame (s : State) :
    (s.testTally).intake = s.intake ∧ (s.testTally).board = s.board ∧ (s.testTally).free = s.free ∧
    (s.testTally).pending = s.pending := by
  unfold State.testTally; repeat' split
  all_goals simp

@[simp] theorem State.enterTallying_frame (s : State) :
    (s.enterTallying).intake = s.intake ∧ (s.enterTallying).board = s.board ∧ (s.enterTallying).free = s.free ∧
    (s.enterTallying).pending = s.pending := by simp [State.enterTallying]

@[simp] theorem State.keyTally_frame (s : State) (k : OptKey) :
    (s.keyTally k).intake = s.intake ∧ (s.keyTally k).board = s.board ∧ (s.keyTally k).free = s.free ∧
    (s.keyTally k).pending = s.pending := by
  unfold State.keyTally; repeat' split
  all_goals simp

@[simp] theorem State.discardTally_frame (s : State) :
    (s.discardTally).list = s.list ∧ (s.discardTally).engine = s.engine ∧ (s.discardTally).arbiter = s.arbiter ∧
    (s.discardTally).consoles = s.consoles ∧ (s.discardTally).intake = s.intake ∧
    (s.discardTally).standings = s.standings ∧ (s.discardTally).board = s.board ∧ (s.discardTally).link = s.link ∧
    (s.discardTally).free = s.free ∧ (s.discardTally).pending = s.pending := by
  unfold State.discardTally; repeat' split
  all_goals simp

@[simp] theorem State.start_frame (s : State) :
    (s.start).arbiter = s.arbiter ∧ (s.start).consoles = s.consoles ∧ (s.start).intake = s.intake ∧
    (s.start).standings = s.standings ∧ (s.start).board = s.board ∧ (s.start).free = s.free ∧
    (s.start).pending = s.pending := ⟨rfl, rfl, rfl, rfl, rfl, rfl, rfl⟩

@[simp] theorem State.openRound_frame (s : State) :
    (s.openRound).list = s.list ∧ (s.openRound).arbiter = s.arbiter ∧ (s.openRound).consoles = s.consoles ∧
    (s.openRound).intake = s.intake ∧ (s.openRound).answers = s.answers ∧ (s.openRound).standings = s.standings ∧
    (s.openRound).board = s.board ∧ (s.openRound).free = s.free ∧ (s.openRound).pending = s.pending := ⟨rfl, rfl, rfl, rfl, rfl, rfl, rfl, rfl, rfl⟩

@[simp] theorem State.tellSecond_frame (s : State) (n : Nat) :
    (s.tellSecond n).list = s.list ∧ (s.tellSecond n).arbiter = s.arbiter ∧ (s.tellSecond n).consoles = s.consoles ∧
    (s.tellSecond n).intake = s.intake ∧ (s.tellSecond n).answers = s.answers ∧
    (s.tellSecond n).standings = s.standings ∧ (s.tellSecond n).board = s.board ∧ (s.tellSecond n).free = s.free ∧
    (s.tellSecond n).pending = s.pending := by
  unfold State.tellSecond; repeat' split
  all_goals simp

@[simp] theorem State.callTime_frame (s : State) :
    (s.callTime).intake = s.intake ∧ (s.callTime).answers = s.answers ∧ (s.callTime).standings = s.standings ∧
    (s.callTime).board = s.board ∧ (s.callTime).free = s.free ∧ (s.callTime).pending = s.pending := by simp [State.callTime]

@[simp] theorem State.roundTimeUp_frame (s : State) :
    (s.roundTimeUp).intake = s.intake ∧ (s.roundTimeUp).board = s.board ∧ (s.roundTimeUp).free = s.free ∧
    (s.roundTimeUp).pending = s.pending := by
  unfold State.roundTimeUp; repeat' split
  all_goals simp

@[simp] theorem State.answerTimeUp_frame (s : State) (h : Holder) :
    (s.answerTimeUp h).intake = s.intake ∧ (s.answerTimeUp h).answers = s.answers ∧
    (s.answerTimeUp h).board = s.board ∧ (s.answerTimeUp h).free = s.free ∧ (s.answerTimeUp h).pending = s.pending := by simp [State.answerTimeUp]

@[simp] theorem State.judgeBy_frame (s : State) (h : Holder) (right : Bool) :
    (s.judgeBy h right).intake = s.intake ∧ (s.judgeBy h right).answers = s.answers ∧
    (s.judgeBy h right).free = s.free ∧ (s.judgeBy h right).pending = s.pending := by
  unfold State.judgeBy; repeat' split
  all_goals simp

@[simp] theorem State.pause_frame (s : State) :
    (s.pause).list = s.list ∧ (s.pause).arbiter = s.arbiter ∧ (s.pause).consoles = s.consoles ∧
    (s.pause).intake = s.intake ∧ (s.pause).answers = s.answers ∧ (s.pause).standings = s.standings ∧
    (s.pause).board = s.board ∧ (s.pause).free = s.free ∧ (s.pause).pending = s.pending := ⟨rfl, rfl, rfl, rfl, rfl, rfl, rfl, rfl, rfl⟩

@[simp] theorem State.unpause_frame (s : State) :
    (s.unpause).list = s.list ∧ (s.unpause).arbiter = s.arbiter ∧ (s.unpause).consoles = s.consoles ∧
    (s.unpause).intake = s.intake ∧ (s.unpause).answers = s.answers ∧ (s.unpause).standings = s.standings ∧
    (s.unpause).board = s.board ∧ (s.unpause).free = s.free ∧ (s.unpause).pending = s.pending := ⟨rfl, rfl, rfl, rfl, rfl, rfl, rfl, rfl, rfl⟩

@[simp] theorem State.settleNow_frame (s : State) :
    (s.settleNow).list = s.list ∧ (s.settleNow).arbiter = s.arbiter ∧ (s.settleNow).consoles = s.consoles ∧
    (s.settleNow).intake = s.intake ∧ (s.settleNow).answers = s.answers ∧ (s.settleNow).standings = s.standings ∧
    (s.settleNow).board = s.board ∧ (s.settleNow).link = s.link ∧ (s.settleNow).free = s.free ∧
    (s.settleNow).pending = s.pending := ⟨rfl, rfl, rfl, rfl, rfl, rfl, rfl, rfl, rfl, rfl⟩

@[simp] theorem State.resume_frame (s : State) :
    (s.resume).intake = s.intake ∧ (s.resume).answers = s.answers ∧ (s.resume).standings = s.standings ∧
    (s.resume).board = s.board ∧ (s.resume).free = s.free ∧ (s.resume).pending = s.pending := by
  unfold State.resume; repeat' split
  all_goals simp

@[simp] theorem State.abandon_frame (s : State) :
    (s.abandon).intake = s.intake ∧ (s.abandon).standings = s.standings ∧ (s.abandon).board = s.board ∧
    (s.abandon).free = s.free ∧ (s.abandon).pending = s.pending := by simp [State.abandon]

@[simp] theorem State.offerPress_frame (s : State) (n : Nat) (run : RunStart) :
    (s.offerPress n run).intake = s.intake ∧ (s.offerPress n run).answers = s.answers ∧
    (s.offerPress n run).board = s.board ∧ (s.offerPress n run).pending = s.pending := by
  unfold State.offerPress; repeat' split
  all_goals simp

@[simp] theorem State.acceptPress_frame (s : State) (n : Nat) :
    (s.acceptPress n).intake = s.intake ∧ (s.acceptPress n).answers = s.answers ∧ (s.acceptPress n).board = s.board ∧
    (s.acceptPress n).pending = s.pending := by
  unfold State.acceptPress; repeat' split
  all_goals simp

@[simp] theorem State.countRefused_frame (s : State) (r : Nat) :
    (s.countRefused r).list = s.list ∧ (s.countRefused r).engine = s.engine ∧ (s.countRefused r).arbiter = s.arbiter ∧
    (s.countRefused r).consoles = s.consoles ∧ (s.countRefused r).answers = s.answers ∧
    (s.countRefused r).standings = s.standings ∧ (s.countRefused r).board = s.board ∧
    (s.countRefused r).link = s.link ∧ (s.countRefused r).free = s.free ∧ (s.countRefused r).pending = s.pending := by
  unfold State.countRefused; repeat' split
  all_goals simp

@[simp] theorem State.countAccepted_frame (s : State) (r : Nat) :
    (s.countAccepted r).list = s.list ∧ (s.countAccepted r).engine = s.engine ∧
    (s.countAccepted r).arbiter = s.arbiter ∧ (s.countAccepted r).consoles = s.consoles ∧
    (s.countAccepted r).answers = s.answers ∧ (s.countAccepted r).standings = s.standings ∧
    (s.countAccepted r).board = s.board ∧ (s.countAccepted r).link = s.link ∧ (s.countAccepted r).free = s.free ∧
    (s.countAccepted r).pending = s.pending := ⟨rfl, rfl, rfl, rfl, rfl, rfl, rfl, rfl, rfl, rfl⟩

@[simp] theorem State.badFrame_frame (s : State) (reason : BadFrameReason) (r : Option Byte) :
    (s.badFrame reason r).list = s.list ∧ (s.badFrame reason r).engine = s.engine ∧
    (s.badFrame reason r).arbiter = s.arbiter ∧ (s.badFrame reason r).consoles = s.consoles ∧
    (s.badFrame reason r).answers = s.answers ∧ (s.badFrame reason r).standings = s.standings ∧
    (s.badFrame reason r).board = s.board ∧ (s.badFrame reason r).free = s.free ∧
    (s.badFrame reason r).pending = s.pending := by
  unfold State.badFrame; repeat' split
  all_goals simp

@[simp] theorem State.overrunDrop_frame (s : State) (r : Nat) :
    (s.overrunDrop r).list = s.list ∧ (s.overrunDrop r).engine = s.engine ∧ (s.overrunDrop r).arbiter = s.arbiter ∧
    (s.overrunDrop r).consoles = s.consoles ∧ (s.overrunDrop r).answers = s.answers ∧
    (s.overrunDrop r).standings = s.standings ∧ (s.overrunDrop r).board = s.board ∧ (s.overrunDrop r).free = s.free ∧
    (s.overrunDrop r).pending = s.pending := by
  unfold State.overrunDrop; repeat' split
  all_goals simp

@[simp] theorem State.arrive_frame (s : State) (f : PadFrame) :
    (s.arrive f).list = s.list ∧ (s.arrive f).engine = s.engine ∧ (s.arrive f).arbiter = s.arbiter ∧
    (s.arrive f).consoles = s.consoles ∧ (s.arrive f).answers = s.answers ∧ (s.arrive f).standings = s.standings ∧
    (s.arrive f).board = s.board ∧ (s.arrive f).free = s.free ∧ (s.arrive f).pending = s.pending := by
  unfold State.arrive; repeat' split
  all_goals simp

@[simp] theorem State.padFrame_frame (s : State) (f : PadFrame) :
    (s.padFrame f).list = s.list ∧ (s.padFrame f).engine = s.engine ∧ (s.padFrame f).arbiter = s.arbiter ∧
    (s.padFrame f).consoles = s.consoles ∧ (s.padFrame f).answers = s.answers ∧
    (s.padFrame f).standings = s.standings ∧ (s.padFrame f).board = s.board ∧ (s.padFrame f).free = s.free ∧
    (s.padFrame f).pending = s.pending := by
  unfold State.padFrame; repeat' split
  all_goals simp

@[simp] theorem State.padWaits_frame (s : State) :
    (s.padWaits).list = s.list ∧ (s.padWaits).engine = s.engine ∧ (s.padWaits).arbiter = s.arbiter ∧
    (s.padWaits).consoles = s.consoles ∧ (s.padWaits).answers = s.answers ∧ (s.padWaits).standings = s.standings ∧
    (s.padWaits).board = s.board ∧ (s.padWaits).link = s.link ∧ (s.padWaits).free = s.free ∧
    (s.padWaits).pending = s.pending := ⟨rfl, rfl, rfl, rfl, rfl, rfl, rfl, rfl, rfl, rfl⟩

@[simp] theorem State.runt_frame (s : State) (received : List Byte) :
    (s.runt received).list = s.list ∧ (s.runt received).engine = s.engine ∧ (s.runt received).arbiter = s.arbiter ∧
    (s.runt received).consoles = s.consoles ∧ (s.runt received).answers = s.answers ∧
    (s.runt received).standings = s.standings ∧ (s.runt received).board = s.board ∧ (s.runt received).free = s.free ∧
    (s.runt received).pending = s.pending := by simp [State.runt]

@[simp] theorem State.padByteOutside_frame (s : State) (b : Byte) :
    (s.padByteOutside b).list = s.list ∧ (s.padByteOutside b).engine = s.engine ∧
    (s.padByteOutside b).arbiter = s.arbiter ∧ (s.padByteOutside b).consoles = s.consoles ∧
    (s.padByteOutside b).answers = s.answers ∧ (s.padByteOutside b).standings = s.standings ∧
    (s.padByteOutside b).board = s.board ∧ (s.padByteOutside b).link = s.link ∧ (s.padByteOutside b).free = s.free ∧
    (s.padByteOutside b).pending = s.pending := by
  unfold State.padByteOutside; repeat' split
  all_goals simp

@[simp] theorem State.padByteInside_frame (s : State) (received : List Byte) (b : Byte) :
    (s.padByteInside received b).list = s.list ∧ (s.padByteInside received b).engine = s.engine ∧
    (s.padByteInside received b).arbiter = s.arbiter ∧ (s.padByteInside received b).consoles = s.consoles ∧
    (s.padByteInside received b).answers = s.answers ∧ (s.padByteInside received b).standings = s.standings ∧
    (s.padByteInside received b).board = s.board ∧ (s.padByteInside received b).free = s.free ∧
    (s.padByteInside received b).pending = s.pending := by
  unfold State.padByteInside; repeat' split
  all_goals simp

@[simp] theorem State.padByte_frame (s : State) (b : Byte) :
    (s.padByte b).list = s.list ∧ (s.padByte b).engine = s.engine ∧ (s.padByte b).arbiter = s.arbiter ∧
    (s.padByte b).consoles = s.consoles ∧ (s.padByte b).answers = s.answers ∧ (s.padByte b).standings = s.standings ∧
    (s.padByte b).board = s.board ∧ (s.padByte b).free = s.free ∧ (s.padByte b).pending = s.pending := by
  unfold State.padByte; repeat' split
  all_goals simp

@[simp] theorem State.updateRoster_frame (s : State) (e : FifoEntry) (p : Nat) (r : RosterEntry) :
    (s.updateRoster e p r).list = s.list ∧ (s.updateRoster e p r).engine = s.engine ∧
    (s.updateRoster e p r).arbiter = s.arbiter ∧ (s.updateRoster e p r).consoles = s.consoles ∧
    (s.updateRoster e p r).answers = s.answers ∧ (s.updateRoster e p r).standings = s.standings ∧
    (s.updateRoster e p r).board = s.board ∧ (s.updateRoster e p r).free = s.free ∧
    (s.updateRoster e p r).pending = s.pending := by simp [State.updateRoster]

@[simp] theorem State.dispatchBuzz_frame (s : State) (e : FifoEntry) (t : Option Nat) (a : Nat) :
    (s.dispatchBuzz e t a).intake = s.intake ∧ (s.dispatchBuzz e t a).answers = s.answers ∧
    (s.dispatchBuzz e t a).board = s.board ∧ (s.dispatchBuzz e t a).pending = s.pending := by
  unfold State.dispatchBuzz; repeat' split
  all_goals simp

@[simp] theorem State.dispatch_frame (s : State) (e : FifoEntry) (p t : Option Nat) (a : Nat) :
    (s.dispatch e p t a).intake = s.intake ∧ (s.dispatch e p t a).board = s.board ∧
    (s.dispatch e p t a).pending = s.pending := by
  unfold State.dispatch; repeat' split
  all_goals simp

@[simp] theorem State.checkRound_frame (s : State) (e : FifoEntry) (p t : Option Nat) :
    (s.checkRound e p t).board = s.board ∧ (s.checkRound e p t).pending = s.pending := by
  unfold State.checkRound; repeat' split
  all_goals simp

@[simp] theorem State.handleKey_frame (s : State) (e : FifoEntry) (p t : Option Nat) :
    (s.handleKey e p t).board = s.board ∧ (s.handleKey e p t).pending = s.pending := by
  unfold State.handleKey; repeat' split
  all_goals simp

@[simp] theorem State.handleRoster_frame (s : State) (e : FifoEntry) (p : Nat) (r : RosterEntry) :
    (s.handleRoster e p r).board = s.board ∧ (s.handleRoster e p r).pending = s.pending := by
  unfold State.handleRoster; repeat' split
  all_goals simp

@[simp] theorem State.handle_frame (s : State) (e : FifoEntry) :
    (s.handle e).board = s.board ∧ (s.handle e).pending = s.pending := by
  unfold State.handle; repeat' split
  all_goals simp

@[simp] theorem State.completeTake_frame (s : State) (e : FifoEntry) :
    (s.completeTake e).board = s.board ∧ (s.completeTake e).pending = s.pending := by simp [State.completeTake]

@[simp] theorem State.beginRefresh_frame (s : State) :
    (s.beginRefresh).list = s.list ∧ (s.beginRefresh).engine = s.engine ∧ (s.beginRefresh).arbiter = s.arbiter ∧
    (s.beginRefresh).consoles = s.consoles ∧ (s.beginRefresh).intake = s.intake ∧
    (s.beginRefresh).answers = s.answers ∧ (s.beginRefresh).standings = s.standings ∧ (s.beginRefresh).link = s.link ∧
    (s.beginRefresh).free = s.free ∧ (s.beginRefresh).pending = s.pending := by
  unfold State.beginRefresh; repeat' split
  all_goals simp

@[simp] theorem State.completeRefresh_frame (s : State) :
    (s.completeRefresh).list = s.list ∧ (s.completeRefresh).engine = s.engine ∧
    (s.completeRefresh).arbiter = s.arbiter ∧ (s.completeRefresh).consoles = s.consoles ∧
    (s.completeRefresh).intake = s.intake ∧ (s.completeRefresh).answers = s.answers ∧
    (s.completeRefresh).standings = s.standings ∧ (s.completeRefresh).link = s.link ∧
    (s.completeRefresh).free = s.free ∧ (s.completeRefresh).pending = s.pending := by
  unfold State.completeRefresh; repeat' split
  all_goals simp

@[simp] theorem State.beginPoll_frame (s : State) :
    (s.beginPoll).list = s.list ∧ (s.beginPoll).engine = s.engine ∧ (s.beginPoll).arbiter = s.arbiter ∧
    (s.beginPoll).consoles = s.consoles ∧ (s.beginPoll).intake = s.intake ∧ (s.beginPoll).answers = s.answers ∧
    (s.beginPoll).standings = s.standings ∧ (s.beginPoll).link = s.link ∧ (s.beginPoll).free = s.free ∧
    (s.beginPoll).pending = s.pending := by
  unfold State.beginPoll; repeat' split
  all_goals simp

@[simp] theorem State.completePoll_frame (s : State) (p : Presence) :
    (s.completePoll p).list = s.list ∧ (s.completePoll p).engine = s.engine ∧ (s.completePoll p).arbiter = s.arbiter ∧
    (s.completePoll p).consoles = s.consoles ∧ (s.completePoll p).intake = s.intake ∧
    (s.completePoll p).answers = s.answers ∧ (s.completePoll p).standings = s.standings ∧
    (s.completePoll p).free = s.free ∧ (s.completePoll p).pending = s.pending := by
  unfold State.completePoll; repeat' split
  all_goals simp

@[simp] theorem State.releaseAtCursor_frame (s : State) :
    (s.releaseAtCursor).list = s.list ∧ (s.releaseAtCursor).engine = s.engine ∧
    (s.releaseAtCursor).arbiter = s.arbiter ∧ (s.releaseAtCursor).consoles = s.consoles ∧
    (s.releaseAtCursor).intake = s.intake ∧ (s.releaseAtCursor).answers = s.answers ∧
    (s.releaseAtCursor).standings = s.standings ∧ (s.releaseAtCursor).link = s.link ∧
    (s.releaseAtCursor).free = s.free ∧ (s.releaseAtCursor).pending = s.pending := by simp [State.releaseAtCursor]

@[simp] theorem State.reveal_frame (s : State) :
    (s.reveal).list = s.list ∧ (s.reveal).engine = s.engine ∧ (s.reveal).arbiter = s.arbiter ∧
    (s.reveal).consoles = s.consoles ∧ (s.reveal).intake = s.intake ∧ (s.reveal).answers = s.answers ∧
    (s.reveal).standings = s.standings ∧ (s.reveal).free = s.free ∧ (s.reveal).pending = s.pending := by
  unfold State.reveal; repeat' split
  all_goals simp

@[simp] theorem State.ticked_frame (s : State) (levels : BitVec 24) :
    (s.ticked levels).list = s.list ∧ (s.ticked levels).arbiter = s.arbiter ∧ (s.ticked levels).answers = s.answers ∧
    (s.ticked levels).standings = s.standings ∧ (s.ticked levels).free = s.free ∧
    (s.ticked levels).pending = s.pending := ⟨rfl, rfl, rfl, rfl, rfl, rfl⟩

@[simp] theorem State.abandonForReset_frame (s : State) :
    (s.abandonForReset).intake = s.intake ∧ (s.abandonForReset).answers = s.answers ∧
    (s.abandonForReset).standings = s.standings ∧ (s.abandonForReset).board = s.board ∧
    (s.abandonForReset).free = s.free ∧ (s.abandonForReset).pending = s.pending := by
  unfold State.abandonForReset; repeat' split
  all_goals simp

@[simp] theorem State.unitsReset_frame (s : State) :
    (s.unitsReset).link = s.link ∧ (s.unitsReset).free = s.free ∧ (s.unitsReset).pending = s.pending := ⟨rfl, rfl, rfl⟩

@[simp] theorem State.showReset_frame (s : State) :
    (s.showReset).free = s.free ∧ (s.showReset).pending = s.pending := by simp [State.showReset]

end Sys2Proof.Machine
end

