-- ==== Sys2Proof/Laws/Told.lean ====
section
/-! SUPPORT. What raising events leaves of the control link, and that it keeps the report queue within its bounds: one
pair of lemmas for each shared operation whose only effect on the link is the events it raises (R189, R191). -/

namespace Sys2Proof.Machine

/-- The link less what an event can change: the class flags, the report queue, the lost mark and the dropped count. -/
def Link.quiet (l : Link) : Link := { l with flags := 0, queue := [], lost := false, dropped := 0 }

/-- The report queue is within its limit and the dropped count within its range (R191). -/
def Link.queueOk (l : Link) : Prop := l.queue.length ≤ queueLimit ∧ l.dropped ≤ 255

theorem Link.note_quiet (l : Link) (r : Report) : (l.note r).quiet = l.quiet := by
  unfold Link.note Link.enqueue; dsimp only; repeat' split
  all_goals rfl

theorem Link.note_queueOk (l : Link) (r : Report) (h : l.queueOk) : (l.note r).queueOk := by
  obtain ⟨h1, h2⟩ := h
  unfold Link.note Link.enqueue; dsimp only; repeat' split
  · exact ⟨h1, Nat.min_le_left _ _⟩
  · refine ⟨?_, h2⟩
    simp only [List.length_append, List.length_singleton]
    omega
  · exact ⟨h1, h2⟩

@[simp] theorem State.raise_quiet (s : State) (e : Event) : (s.raise e).link.quiet = s.link.quiet :=
  Link.note_quiet _ _

@[simp] theorem State.raise_queueOk (s : State) (e : Event) (h : s.link.queueOk) : (s.raise e).link.queueOk :=
  Link.note_queueOk _ _ h

@[simp] theorem State.raiseAll_quiet (s : State) (es : List Event) : (s.raiseAll es).link.quiet = s.link.quiet := by
  induction es generalizing s with
  | nil => rfl
  | cons e es ih => simpa [State.raiseAll] using ih (s.raise e)

@[simp] theorem State.raiseAll_queueOk (s : State) (es : List Event) (h : s.link.queueOk) : (s.raiseAll es).link.queueOk := by
  induction es generalizing s with
  | nil => exact h
  | cons e es ih => exact ih (s.raise e) (s.raise_queueOk e h)

@[simp] theorem State.scoreChange_quiet (s : State) (q : ScoreRequest) :
    (s.scoreChange q).link.quiet = s.link.quiet := by
  unfold State.scoreChange
  all_goals simp

@[simp] theorem State.scoreChange_queueOk (s : State) (q : ScoreRequest) (hq : s.link.queueOk) :
    (s.scoreChange q).link.queueOk := by
  unfold State.scoreChange
  all_goals
    repeat (first | exact hq | apply State.raise_queueOk | apply State.raiseAll_queueOk)

@[simp] theorem State.scoreChanges_quiet (s : State) (qs : List ScoreRequest) :
    (s.scoreChanges qs).link.quiet = s.link.quiet := by
  induction qs generalizing s with
  | nil => rfl
  | cons x xs ih => simpa [State.scoreChanges] using ih (s.scoreChange x)

@[simp] theorem State.scoreChanges_queueOk (s : State) (qs : List ScoreRequest) (hq : s.link.queueOk) :
    (s.scoreChanges qs).link.queueOk := by
  induction qs generalizing s with
  | nil => exact hq
  | cons x xs ih => exact ih (s.scoreChange x) (s.scoreChange_queueOk x hq)

@[simp] theorem State.cueAt_quiet (s : State) (j : Fin 128) :
    (s.cueAt j).link.quiet = s.link.quiet := by
  unfold State.cueAt
  all_goals simp

@[simp] theorem State.cueAt_queueOk (s : State) (j : Fin 128) (hq : s.link.queueOk) :
    (s.cueAt j).link.queueOk := by
  unfold State.cueAt
  all_goals simp (maxDischargeDepth := 40) [*]

@[simp] theorem State.parkAt_quiet (s : State) (k : Fin 128) (reason : ParkReason) (basis : ParkBasis) :
    (s.parkAt k reason basis).link.quiet = s.link.quiet := by
  unfold State.parkAt
  all_goals simp

@[simp] theorem State.parkAt_queueOk (s : State) (k : Fin 128) (reason : ParkReason) (basis : ParkBasis) (hq : s.link.queueOk) :
    (s.parkAt k reason basis).link.queueOk := by
  unfold State.parkAt
  all_goals simp (maxDischargeDepth := 40) [*]

@[simp] theorem State.followFrom_quiet (s : State) (k : Fin 128) :
    (s.followFrom k).link.quiet = s.link.quiet := by
  unfold State.followFrom; repeat' split
  all_goals simp

@[simp] theorem State.followFrom_queueOk (s : State) (k : Fin 128) (hq : s.link.queueOk) :
    (s.followFrom k).link.queueOk := by
  unfold State.followFrom; repeat' split
  all_goals simp (maxDischargeDepth := 40) [*]

@[simp] theorem State.examine_quiet (s : State) (k : Fin 128) :
    (s.examine k).link.quiet = s.link.quiet := by
  unfold State.examine; repeat' split
  all_goals simp

@[simp] theorem State.examine_queueOk (s : State) (k : Fin 128) (hq : s.link.queueOk) :
    (s.examine k).link.queueOk := by
  unfold State.examine; repeat' split
  all_goals simp (maxDischargeDepth := 40) [*]

@[simp] theorem State.reexamine_quiet (s : State) :
    (s.reexamine).link.quiet = s.link.quiet := by
  unfold State.reexamine; repeat' split
  all_goals simp

@[simp] theorem State.reexamine_queueOk (s : State) (hq : s.link.queueOk) :
    (s.reexamine).link.queueOk := by
  unfold State.reexamine; repeat' split
  all_goals simp (maxDischargeDepth := 40) [*]

@[simp] theorem State.closeRound_quiet (s : State) (o : RoundOutcome) (w : Option Nat) :
    (s.closeRound o w).link.quiet = s.link.quiet := by
  unfold State.closeRound
  all_goals simp

@[simp] theorem State.closeRound_queueOk (s : State) (o : RoundOutcome) (w : Option Nat) (hq : s.link.queueOk) :
    (s.closeRound o w).link.queueOk := by
  unfold State.closeRound
  all_goals simp (maxDischargeDepth := 40) [*]

@[simp] theorem State.close_quiet (s : State) (o : RoundOutcome) :
    (s.close o).link.quiet = s.link.quiet := by
  unfold State.close
  all_goals simp

@[simp] theorem State.close_queueOk (s : State) (o : RoundOutcome) (hq : s.link.queueOk) :
    (s.close o).link.queueOk := by
  unfold State.close
  all_goals simp (maxDischargeDepth := 40) [*]

@[simp] theorem State.closeWon_quiet (s : State) (w : Nat) :
    (s.closeWon w).link.quiet = s.link.quiet := by
  unfold State.closeWon
  all_goals simp

@[simp] theorem State.closeWon_queueOk (s : State) (w : Nat) (hq : s.link.queueOk) :
    (s.closeWon w).link.queueOk := by
  unfold State.closeWon
  all_goals simp (maxDischargeDepth := 40) [*]

@[simp] theorem State.grant_quiet (s : State) (c : QueuedClaim) (rest : List QueuedClaim) :
    (s.grant c rest).link.quiet = s.link.quiet := by
  unfold State.grant
  all_goals simp

@[simp] theorem State.grant_queueOk (s : State) (c : QueuedClaim) (rest : List QueuedClaim) (hq : s.link.queueOk) :
    (s.grant c rest).link.queueOk := by
  unfold State.grant
  all_goals simp (maxDischargeDepth := 40) [*]

@[simp] theorem State.testGrant_quiet (s : State) :
    (s.testGrant).link.quiet = s.link.quiet := by
  unfold State.testGrant; repeat' split
  all_goals simp

@[simp] theorem State.testGrant_queueOk (s : State) (hq : s.link.queueOk) :
    (s.testGrant).link.queueOk := by
  unfold State.testGrant; repeat' split
  all_goals simp (maxDischargeDepth := 40) [*]

@[simp] theorem State.tellRefusal_quiet (s : State) (o : Offer) (x : ClaimOutcome) :
    (s.tellRefusal o x).link.quiet = s.link.quiet := by
  unfold State.tellRefusal
  all_goals simp

@[simp] theorem State.tellRefusal_queueOk (s : State) (o : Offer) (x : ClaimOutcome) (hq : s.link.queueOk) :
    (s.tellRefusal o x).link.queueOk := by
  unfold State.tellRefusal
  all_goals simp (maxDischargeDepth := 40) [*]

@[simp] theorem State.place_quiet (s : State) (o : Offer) (x : ClaimOutcome) (c : QueuedClaim) (old : Option Nat) :
    (s.place o x c old).link.quiet = s.link.quiet := by
  unfold State.place
  all_goals simp

@[simp] theorem State.place_queueOk (s : State) (o : Offer) (x : ClaimOutcome) (c : QueuedClaim) (old : Option Nat) (hq : s.link.queueOk) :
    (s.place o x c old).link.queueOk := by
  unfold State.place
  all_goals simp (maxDischargeDepth := 40) [*]

@[simp] theorem State.admit_quiet (s : State) (o : Offer) :
    (s.admitClaim o).link.quiet = s.link.quiet := by
  unfold State.admitClaim; dsimp only
  all_goals simp

@[simp] theorem State.admit_queueOk (s : State) (o : Offer) (hq : s.link.queueOk) :
    (s.admitClaim o).link.queueOk := by
  unfold State.admitClaim; dsimp only
  all_goals simp (maxDischargeDepth := 40) [*]

@[simp] theorem State.replace_quiet (s : State) (o : Offer) :
    (s.replace o).link.quiet = s.link.quiet := by
  unfold State.replace; repeat' split
  all_goals simp

@[simp] theorem State.replace_queueOk (s : State) (o : Offer) (hq : s.link.queueOk) :
    (s.replace o).link.queueOk := by
  unfold State.replace; repeat' split
  all_goals simp (maxDischargeDepth := 40) [*]

@[simp] theorem State.penalise_quiet (s : State) (t : Nat) :
    (s.penalise t).link.quiet = s.link.quiet := by
  unfold State.penalise
  all_goals simp

@[simp] theorem State.penalise_queueOk (s : State) (t : Nat) (hq : s.link.queueOk) :
    (s.penalise t).link.queueOk := by
  unfold State.penalise
  all_goals simp (maxDischargeDepth := 40) [*]

@[simp] theorem State.withdrawLocked_quiet (s : State) (t : Nat) :
    (s.withdrawLocked t).link.quiet = s.link.quiet := by
  unfold State.withdrawLocked; repeat' split
  all_goals simp

@[simp] theorem State.withdrawLocked_queueOk (s : State) (t : Nat) (hq : s.link.queueOk) :
    (s.withdrawLocked t).link.queueOk := by
  unfold State.withdrawLocked; repeat' split
  all_goals simp (maxDischargeDepth := 40) [*]

@[simp] theorem State.falseStartLock_quiet (s : State) (o : Offer) :
    (s.falseStartLock o).link.quiet = s.link.quiet := by
  unfold State.falseStartLock; dsimp only; repeat' split
  all_goals simp

@[simp] theorem State.falseStartLock_queueOk (s : State) (o : Offer) (hq : s.link.queueOk) :
    (s.falseStartLock o).link.queueOk := by
  unfold State.falseStartLock; dsimp only; repeat' split
  all_goals simp (maxDischargeDepth := 40) [*]

@[simp] theorem State.falseStartPenalise_quiet (s : State) (o : Offer) :
    (s.falseStartPenalise o).link.quiet = s.link.quiet := by
  unfold State.falseStartPenalise; dsimp only; repeat' split
  all_goals simp

@[simp] theorem State.falseStartPenalise_queueOk (s : State) (o : Offer) (hq : s.link.queueOk) :
    (s.falseStartPenalise o).link.queueOk := by
  unfold State.falseStartPenalise; dsimp only; repeat' split
  all_goals simp (maxDischargeDepth := 40) [*]

@[simp] theorem State.offer_quiet (s : State) (o : Offer) :
    (s.offer o).link.quiet = s.link.quiet := by
  unfold State.offer; repeat' split
  all_goals simp

@[simp] theorem State.offer_queueOk (s : State) (o : Offer) (hq : s.link.queueOk) :
    (s.offer o).link.queueOk := by
  unfold State.offer; repeat' split
  all_goals simp (maxDischargeDepth := 40) [*]

@[simp] theorem State.withdrawLate_quiet (s : State) :
    (s.withdrawLate).link.quiet = s.link.quiet := by
  unfold State.withdrawLate
  all_goals simp

@[simp] theorem State.withdrawLate_queueOk (s : State) (hq : s.link.queueOk) :
    (s.withdrawLate).link.queueOk := by
  unfold State.withdrawLate
  all_goals simp (maxDischargeDepth := 40) [*]

@[simp] theorem State.judgeRight_quiet (s : State) (h : Holder) :
    (s.judgeRight h).link.quiet = s.link.quiet := by
  unfold State.judgeRight
  all_goals simp

@[simp] theorem State.judgeRight_queueOk (s : State) (h : Holder) (hq : s.link.queueOk) :
    (s.judgeRight h).link.queueOk := by
  unfold State.judgeRight
  all_goals simp (maxDischargeDepth := 40) [*]

@[simp] theorem State.reboundQueue_quiet (s : State) :
    (s.reboundQueue).link.quiet = s.link.quiet := by
  unfold State.reboundQueue; repeat' split
  all_goals simp

@[simp] theorem State.reboundQueue_queueOk (s : State) (hq : s.link.queueOk) :
    (s.reboundQueue).link.queueOk := by
  unfold State.reboundQueue; repeat' split
  all_goals simp (maxDischargeDepth := 40) [*]

@[simp] theorem State.reboundReopen_quiet (s : State) :
    (s.reboundReopen).link.quiet = s.link.quiet := by
  unfold State.reboundReopen; dsimp only; repeat' split
  all_goals simp

@[simp] theorem State.reboundReopen_queueOk (s : State) (hq : s.link.queueOk) :
    (s.reboundReopen).link.queueOk := by
  unfold State.reboundReopen; dsimp only; repeat' split
  all_goals
    first
      | simp (maxDischargeDepth := 40) [*]; done
      | (repeat (first | exact hq | apply State.raise_queueOk | apply State.raiseAll_queueOk | apply State.close_queueOk))

@[simp] theorem State.afterWrong_quiet (s : State) (f : Follows) :
    (s.afterWrong f).link.quiet = s.link.quiet := by
  unfold State.afterWrong; repeat' split
  all_goals simp

@[simp] theorem State.afterWrong_queueOk (s : State) (f : Follows) (hq : s.link.queueOk) :
    (s.afterWrong f).link.queueOk := by
  unfold State.afterWrong; repeat' split
  all_goals simp (maxDischargeDepth := 40) [*]

@[simp] theorem State.judgeWrong_quiet (s : State) (h : Holder) (v : Verdict) :
    (s.judgeWrong h v).link.quiet = s.link.quiet := by
  unfold State.judgeWrong; dsimp only; repeat' split
  all_goals simp

@[simp] theorem State.judgeWrong_queueOk (s : State) (h : Holder) (v : Verdict) (hq : s.link.queueOk) :
    (s.judgeWrong h v).link.queueOk := by
  unfold State.judgeWrong; dsimp only; repeat' split
  all_goals simp (maxDischargeDepth := 40) [*]

@[simp] theorem State.answer_quiet (s : State) (k : AnswerKey) :
    (s.answer k).link.quiet = s.link.quiet := by
  unfold State.answer; dsimp only; repeat' split
  all_goals simp

@[simp] theorem State.answer_queueOk (s : State) (k : AnswerKey) (hq : s.link.queueOk) :
    (s.answer k).link.queueOk := by
  unfold State.answer; dsimp only; repeat' split
  all_goals
    first
      | simp (maxDischargeDepth := 40) [*]
      | (repeat (first | exact hq | apply State.raise_queueOk | apply State.raiseAll_queueOk))

@[simp] theorem State.payShares_quiet (s : State) (y : Tally) :
    (s.payShares y).link.quiet = s.link.quiet := by
  unfold State.payShares
  all_goals simp

@[simp] theorem State.payShares_queueOk (s : State) (y : Tally) (hq : s.link.queueOk) :
    (s.payShares y).link.queueOk := by
  unfold State.payShares
  all_goals simp (maxDischargeDepth := 40) [*]

@[simp] theorem State.completeChoice_quiet (s : State) (y : Tally) :
    (s.completeChoice y).link.quiet = s.link.quiet := by
  unfold State.completeChoice; dsimp only; repeat' split
  all_goals simp

@[simp] theorem State.completeChoice_queueOk (s : State) (y : Tally) (hq : s.link.queueOk) :
    (s.completeChoice y).link.queueOk := by
  unfold State.completeChoice; dsimp only; repeat' split
  all_goals simp (maxDischargeDepth := 40) [*]

@[simp] theorem State.completeTally_quiet (s : State) :
    (s.completeTally).link.quiet = s.link.quiet := by
  unfold State.completeTally; dsimp only; repeat' split
  all_goals simp

@[simp] theorem State.completeTally_queueOk (s : State) (hq : s.link.queueOk) :
    (s.completeTally).link.queueOk := by
  unfold State.completeTally; dsimp only; repeat' split
  all_goals simp (maxDischargeDepth := 40) [*]

@[simp] theorem State.testTally_quiet (s : State) :
    (s.testTally).link.quiet = s.link.quiet := by
  unfold State.testTally; repeat' split
  all_goals simp

@[simp] theorem State.testTally_queueOk (s : State) (hq : s.link.queueOk) :
    (s.testTally).link.queueOk := by
  unfold State.testTally; repeat' split
  all_goals simp (maxDischargeDepth := 40) [*]

@[simp] theorem State.enterTallying_quiet (s : State) :
    (s.enterTallying).link.quiet = s.link.quiet := by
  unfold State.enterTallying
  all_goals simp

@[simp] theorem State.enterTallying_queueOk (s : State) (hq : s.link.queueOk) :
    (s.enterTallying).link.queueOk := by
  unfold State.enterTallying
  all_goals simp (maxDischargeDepth := 40) [*]

@[simp] theorem State.keyTally_quiet (s : State) (k : OptKey) :
    (s.keyTally k).link.quiet = s.link.quiet := by
  unfold State.keyTally; dsimp only; repeat' split
  all_goals simp

@[simp] theorem State.keyTally_queueOk (s : State) (k : OptKey) (hq : s.link.queueOk) :
    (s.keyTally k).link.queueOk := by
  unfold State.keyTally; dsimp only; repeat' split
  all_goals simp (maxDischargeDepth := 40) [*]

@[simp] theorem State.start_quiet (s : State) :
    (s.start).link.quiet = s.link.quiet := by
  unfold State.start; dsimp only
  all_goals simp

@[simp] theorem State.start_queueOk (s : State) (hq : s.link.queueOk) :
    (s.start).link.queueOk := by
  unfold State.start; dsimp only
  all_goals simp (maxDischargeDepth := 40) [*]

@[simp] theorem State.openRound_quiet (s : State) :
    (s.openRound).link.quiet = s.link.quiet := by
  unfold State.openRound; dsimp only
  all_goals simp

@[simp] theorem State.openRound_queueOk (s : State) (hq : s.link.queueOk) :
    (s.openRound).link.queueOk := by
  unfold State.openRound; dsimp only
  all_goals
    repeat (first | exact hq | apply State.raise_queueOk | apply State.raiseAll_queueOk)

@[simp] theorem State.tellSecond_quiet (s : State) (n : Nat) :
    (s.tellSecond n).link.quiet = s.link.quiet := by
  unfold State.tellSecond; dsimp only; repeat' split
  all_goals simp

@[simp] theorem State.tellSecond_queueOk (s : State) (n : Nat) (hq : s.link.queueOk) :
    (s.tellSecond n).link.queueOk := by
  unfold State.tellSecond; dsimp only; repeat' split
  all_goals simp (maxDischargeDepth := 40) [*]

@[simp] theorem State.callTime_quiet (s : State) :
    (s.callTime).link.quiet = s.link.quiet := by
  unfold State.callTime
  all_goals simp

@[simp] theorem State.callTime_queueOk (s : State) (hq : s.link.queueOk) :
    (s.callTime).link.queueOk := by
  unfold State.callTime
  all_goals simp (maxDischargeDepth := 40) [*]

@[simp] theorem State.roundTimeUp_quiet (s : State) :
    (s.roundTimeUp).link.quiet = s.link.quiet := by
  unfold State.roundTimeUp; repeat' split
  all_goals simp

@[simp] theorem State.roundTimeUp_queueOk (s : State) (hq : s.link.queueOk) :
    (s.roundTimeUp).link.queueOk := by
  unfold State.roundTimeUp; repeat' split
  all_goals simp (maxDischargeDepth := 40) [*]

@[simp] theorem State.answerTimeUp_quiet (s : State) (h : Holder) :
    (s.answerTimeUp h).link.quiet = s.link.quiet := by
  unfold State.answerTimeUp
  all_goals simp

@[simp] theorem State.answerTimeUp_queueOk (s : State) (h : Holder) (hq : s.link.queueOk) :
    (s.answerTimeUp h).link.queueOk := by
  unfold State.answerTimeUp
  all_goals simp (maxDischargeDepth := 40) [*]

@[simp] theorem State.judgeBy_quiet (s : State) (h : Holder) (right : Bool) :
    (s.judgeBy h right).link.quiet = s.link.quiet := by
  unfold State.judgeBy; repeat' split
  all_goals simp

@[simp] theorem State.judgeBy_queueOk (s : State) (h : Holder) (right : Bool) (hq : s.link.queueOk) :
    (s.judgeBy h right).link.queueOk := by
  unfold State.judgeBy; repeat' split
  all_goals simp (maxDischargeDepth := 40) [*]

@[simp] theorem State.pause_quiet (s : State) :
    (s.pause).link.quiet = s.link.quiet := by
  unfold State.pause
  all_goals simp

@[simp] theorem State.pause_queueOk (s : State) (hq : s.link.queueOk) :
    (s.pause).link.queueOk := by
  unfold State.pause
  all_goals
    first
      | simp (maxDischargeDepth := 40) [*]; done
      | (repeat (first | exact hq | apply State.raise_queueOk | apply State.raiseAll_queueOk))

@[simp] theorem State.unpause_quiet (s : State) :
    (s.unpause).link.quiet = s.link.quiet := by
  unfold State.unpause
  all_goals simp

@[simp] theorem State.unpause_queueOk (s : State) (hq : s.link.queueOk) :
    (s.unpause).link.queueOk := by
  unfold State.unpause
  all_goals
    first
      | simp (maxDischargeDepth := 40) [*]; done
      | (repeat (first | exact hq | apply State.raise_queueOk | apply State.raiseAll_queueOk))

@[simp] theorem State.resume_quiet (s : State) :
    (s.resume).link.quiet = s.link.quiet := by
  unfold State.resume; repeat' split
  all_goals simp

@[simp] theorem State.resume_queueOk (s : State) (hq : s.link.queueOk) :
    (s.resume).link.queueOk := by
  unfold State.resume; repeat' split
  all_goals simp (maxDischargeDepth := 40) [*]

@[simp] theorem State.abandon_quiet (s : State) :
    (s.abandon).link.quiet = s.link.quiet := by
  unfold State.abandon
  all_goals simp

@[simp] theorem State.abandon_queueOk (s : State) (hq : s.link.queueOk) :
    (s.abandon).link.queueOk := by
  unfold State.abandon
  all_goals simp (maxDischargeDepth := 40) [*]

@[simp] theorem State.offerPress_quiet (s : State) (n : Nat) (run : RunStart) :
    (s.offerPress n run).link.quiet = s.link.quiet := by
  unfold State.offerPress; repeat' split
  all_goals simp

@[simp] theorem State.offerPress_queueOk (s : State) (n : Nat) (run : RunStart) (hq : s.link.queueOk) :
    (s.offerPress n run).link.queueOk := by
  unfold State.offerPress; repeat' split
  all_goals simp (maxDischargeDepth := 40) [*]

@[simp] theorem State.acceptPress_quiet (s : State) (n : Nat) :
    (s.acceptPress n).link.quiet = s.link.quiet := by
  unfold State.acceptPress; dsimp only; repeat' split
  all_goals simp

@[simp] theorem State.acceptPress_queueOk (s : State) (n : Nat) (hq : s.link.queueOk) :
    (s.acceptPress n).link.queueOk := by
  unfold State.acceptPress; dsimp only; repeat' split
  all_goals simp (maxDischargeDepth := 40) [*]

@[simp] theorem State.badFrame_quiet (s : State) (reason : BadFrameReason) (r : Option Byte) :
    (s.badFrame reason r).link.quiet = s.link.quiet := by
  unfold State.badFrame; repeat' split
  all_goals simp

@[simp] theorem State.badFrame_queueOk (s : State) (reason : BadFrameReason) (r : Option Byte) (hq : s.link.queueOk) :
    (s.badFrame reason r).link.queueOk := by
  unfold State.badFrame; repeat' split
  all_goals simp (maxDischargeDepth := 40) [*]

@[simp] theorem State.overrunDrop_quiet (s : State) (r : Nat) :
    (s.overrunDrop r).link.quiet = s.link.quiet := by
  unfold State.overrunDrop; dsimp only; repeat' split
  all_goals simp

@[simp] theorem State.overrunDrop_queueOk (s : State) (r : Nat) (hq : s.link.queueOk) :
    (s.overrunDrop r).link.queueOk := by
  unfold State.overrunDrop; dsimp only; repeat' split
  all_goals simp (maxDischargeDepth := 40) [*]

@[simp] theorem State.arrive_quiet (s : State) (f : PadFrame) :
    (s.arrive f).link.quiet = s.link.quiet := by
  unfold State.arrive; dsimp only; repeat' split
  all_goals simp

@[simp] theorem State.arrive_queueOk (s : State) (f : PadFrame) (hq : s.link.queueOk) :
    (s.arrive f).link.queueOk := by
  unfold State.arrive; dsimp only; repeat' split
  all_goals simp (maxDischargeDepth := 40) [*]

@[simp] theorem State.padFrame_quiet (s : State) (f : PadFrame) :
    (s.padFrame f).link.quiet = s.link.quiet := by
  unfold State.padFrame; repeat' split
  all_goals simp

@[simp] theorem State.padFrame_queueOk (s : State) (f : PadFrame) (hq : s.link.queueOk) :
    (s.padFrame f).link.queueOk := by
  unfold State.padFrame; repeat' split
  all_goals simp (maxDischargeDepth := 40) [*]

@[simp] theorem State.runt_quiet (s : State) (received : List Byte) :
    (s.runt received).link.quiet = s.link.quiet := by
  unfold State.runt
  all_goals simp

@[simp] theorem State.runt_queueOk (s : State) (received : List Byte) (hq : s.link.queueOk) :
    (s.runt received).link.queueOk := by
  unfold State.runt
  all_goals simp (maxDischargeDepth := 40) [*]

@[simp] theorem State.padByteInside_quiet (s : State) (received : List Byte) (b : Byte) :
    (s.padByteInside received b).link.quiet = s.link.quiet := by
  unfold State.padByteInside; repeat' split
  all_goals simp

@[simp] theorem State.padByteInside_queueOk (s : State) (received : List Byte) (b : Byte) (hq : s.link.queueOk) :
    (s.padByteInside received b).link.queueOk := by
  unfold State.padByteInside; repeat' split
  all_goals simp (maxDischargeDepth := 40) [*]

@[simp] theorem State.padByte_quiet (s : State) (b : Byte) :
    (s.padByte b).link.quiet = s.link.quiet := by
  unfold State.padByte; repeat' split
  all_goals simp

@[simp] theorem State.padByte_queueOk (s : State) (b : Byte) (hq : s.link.queueOk) :
    (s.padByte b).link.queueOk := by
  unfold State.padByte; repeat' split
  all_goals simp (maxDischargeDepth := 40) [*]

@[simp] theorem State.updateRoster_quiet (s : State) (e : FifoEntry) (p : Nat) (r : RosterEntry) :
    (s.updateRoster e p r).link.quiet = s.link.quiet := by
  unfold State.updateRoster
  all_goals simp

@[simp] theorem State.updateRoster_queueOk (s : State) (e : FifoEntry) (p : Nat) (r : RosterEntry) (hq : s.link.queueOk) :
    (s.updateRoster e p r).link.queueOk := by
  unfold State.updateRoster
  all_goals
    repeat (first | exact hq | apply State.raise_queueOk | apply State.raiseAll_queueOk)

@[simp] theorem State.dispatchBuzz_quiet (s : State) (e : FifoEntry) (t : Option Nat) (a : Nat) :
    (s.dispatchBuzz e t a).link.quiet = s.link.quiet := by
  unfold State.dispatchBuzz; repeat' split
  all_goals simp

@[simp] theorem State.dispatchBuzz_queueOk (s : State) (e : FifoEntry) (t : Option Nat) (a : Nat) (hq : s.link.queueOk) :
    (s.dispatchBuzz e t a).link.queueOk := by
  unfold State.dispatchBuzz; repeat' split
  all_goals simp (maxDischargeDepth := 40) [*]

@[simp] theorem State.dispatch_quiet (s : State) (e : FifoEntry) (p t : Option Nat) (a : Nat) :
    (s.dispatch e p t a).link.quiet = s.link.quiet := by
  unfold State.dispatch; repeat' split
  all_goals simp

@[simp] theorem State.dispatch_queueOk (s : State) (e : FifoEntry) (p t : Option Nat) (a : Nat) (hq : s.link.queueOk) :
    (s.dispatch e p t a).link.queueOk := by
  unfold State.dispatch; repeat' split
  all_goals simp (maxDischargeDepth := 40) [*]

@[simp] theorem State.checkRound_quiet (s : State) (e : FifoEntry) (p t : Option Nat) :
    (s.checkRound e p t).link.quiet = s.link.quiet := by
  unfold State.checkRound; repeat' split
  all_goals simp

@[simp] theorem State.checkRound_queueOk (s : State) (e : FifoEntry) (p t : Option Nat) (hq : s.link.queueOk) :
    (s.checkRound e p t).link.queueOk := by
  unfold State.checkRound; repeat' split
  all_goals simp (maxDischargeDepth := 40) [*]

@[simp] theorem State.handleKey_quiet (s : State) (e : FifoEntry) (p t : Option Nat) :
    (s.handleKey e p t).link.quiet = s.link.quiet := by
  unfold State.handleKey; repeat' split
  all_goals simp

@[simp] theorem State.handleKey_queueOk (s : State) (e : FifoEntry) (p t : Option Nat) (hq : s.link.queueOk) :
    (s.handleKey e p t).link.queueOk := by
  unfold State.handleKey; repeat' split
  all_goals simp (maxDischargeDepth := 40) [*]

@[simp] theorem State.handleRoster_quiet (s : State) (e : FifoEntry) (p : Nat) (r : RosterEntry) :
    (s.handleRoster e p r).link.quiet = s.link.quiet := by
  unfold State.handleRoster; repeat' split
  all_goals simp

@[simp] theorem State.handleRoster_queueOk (s : State) (e : FifoEntry) (p : Nat) (r : RosterEntry) (hq : s.link.queueOk) :
    (s.handleRoster e p r).link.queueOk := by
  unfold State.handleRoster; repeat' split
  all_goals simp (maxDischargeDepth := 40) [*]

@[simp] theorem State.handle_quiet (s : State) (e : FifoEntry) :
    (s.handle e).link.quiet = s.link.quiet := by
  unfold State.handle; repeat' split
  all_goals simp

@[simp] theorem State.handle_queueOk (s : State) (e : FifoEntry) (hq : s.link.queueOk) :
    (s.handle e).link.queueOk := by
  unfold State.handle; repeat' split
  all_goals simp (maxDischargeDepth := 40) [*]

@[simp] theorem State.completeTake_quiet (s : State) (e : FifoEntry) :
    (s.completeTake e).link.quiet = s.link.quiet := by
  unfold State.completeTake; dsimp only
  all_goals simp

@[simp] theorem State.completeTake_queueOk (s : State) (e : FifoEntry) (hq : s.link.queueOk) :
    (s.completeTake e).link.queueOk := by
  unfold State.completeTake; dsimp only
  all_goals
    repeat (first | exact hq | apply State.raise_queueOk | apply State.raiseAll_queueOk | apply State.testGrant_queueOk | apply State.testTally_queueOk | apply State.handle_queueOk)

@[simp] theorem State.completePoll_quiet (s : State) (p : Presence) :
    (s.completePoll p).link.quiet = s.link.quiet := by
  unfold State.completePoll; dsimp only; repeat' split
  all_goals simp

@[simp] theorem State.completePoll_queueOk (s : State) (p : Presence) (hq : s.link.queueOk) :
    (s.completePoll p).link.queueOk := by
  unfold State.completePoll; dsimp only; repeat' split
  all_goals
    first
      | simp (maxDischargeDepth := 40) [*]; done
      | (repeat (first | exact hq | apply State.raise_queueOk | apply State.raiseAll_queueOk))

@[simp] theorem State.reveal_quiet (s : State) :
    (s.reveal).link.quiet = s.link.quiet := by
  unfold State.reveal; dsimp only; repeat' split
  all_goals simp

@[simp] theorem State.reveal_queueOk (s : State) (hq : s.link.queueOk) :
    (s.reveal).link.queueOk := by
  unfold State.reveal; dsimp only; repeat' split
  all_goals
    first
      | simp (maxDischargeDepth := 40) [*]; done
      | (repeat (first | exact hq | apply State.raise_queueOk | apply State.raiseAll_queueOk))

@[simp] theorem State.abandonForReset_quiet (s : State) :
    (s.abandonForReset).link.quiet = s.link.quiet := by
  unfold State.abandonForReset; repeat' split
  all_goals simp

@[simp] theorem State.abandonForReset_queueOk (s : State) (hq : s.link.queueOk) :
    (s.abandonForReset).link.queueOk := by
  unfold State.abandonForReset; repeat' split
  all_goals simp (maxDischargeDepth := 40) [*]

end Sys2Proof.Machine
end

