-- ==== Sys2Proof/Laws/Desk.lean ====
section
/-! SUPPORT. What the step of a desk command can do, and what the state must look like for a command to wait at the front
of the receive buffer (R184, R185). -/

namespace Sys2Proof.Machine

theorem State.bring_of_waiting {s : State} {i : Instr} (h : s.waitingCommand = some i) : s.bring i = s := by
  simp [State.bring, h]

/-- A command that waits at the front is carried out and answered. -/
theorem desk_of_waiting {s : State} {i : Instr} {carry : State → Carried} (h : s.waitingCommand = some i) :
    desk i carry s = .next ((carry s).answered (i.kindByte.getD 0)) := by
  simp [desk, State.bring_of_waiting h, h]

/-- A desk command always answers a next state. -/
theorem desk_next (i : Instr) (carry : State → Carried) (s : State) :
    desk i carry s = .next (if (s.bring i).waitingCommand = some i then (carry (s.bring i)).answered (i.kindByte.getD 0)
      else s.bring i) := rfl

/-- A front frame is the oldest in the buffer, and is still to be carried out. -/
theorem State.frontFrame_eq_some {s : State} {f : LinkFrame} :
    s.frontFrame = some f ↔
      s.link.mode ≠ .listen ∧ s.link.carriedOut = false ∧ s.link.showReset ≠ .due ∧
        ∃ rest, s.link.buffer = f :: rest := by
  unfold State.frontFrame
  cases hb : s.link.buffer <;> simp [and_assoc]

/-- What waits at the front is the command of the oldest frame in the buffer. -/
theorem State.waitingCommand_eq_some {s : State} {i : Instr} :
    s.waitingCommand = some i ↔
      s.link.mode ≠ .listen ∧ s.link.carriedOut = false ∧ s.link.showReset ≠ .due ∧
        ∃ f rest, s.link.buffer = f :: rest ∧ f.command = some i := by
  simp only [State.waitingCommand, Option.bind_eq_some_iff, State.frontFrame_eq_some]
  constructor
  · rintro ⟨f, ⟨h1, h2, h3, rest, h4⟩, h5⟩
    exact ⟨h1, h2, h3, f, rest, h4, h5⟩
  · rintro ⟨h1, h2, h3, f, rest, h4, h5⟩
    exact ⟨f, ⟨h1, h2, h3, rest, h4⟩, h5⟩

@[simp] theorem Carried.answered_frame (c : Carried) (kind : Byte) :
    (c.answered kind).list = c.state.list ∧ (c.answered kind).engine = c.state.engine ∧
    (c.answered kind).arbiter = c.state.arbiter ∧ (c.answered kind).consoles = c.state.consoles ∧
    (c.answered kind).intake = c.state.intake ∧ (c.answered kind).answers = c.state.answers ∧
    (c.answered kind).standings = c.state.standings ∧ (c.answered kind).board = c.state.board ∧
    (c.answered kind).free = c.state.free ∧ (c.answered kind).pending = c.state.pending := by simp [Carried.answered]

@[simp] theorem State.done_state (s : State) (data : List Byte) : (s.done data).state = s := rfl
@[simp] theorem State.taken_state (s : State) (data : List Byte) : (s.taken data).state = s := rfl
@[simp] theorem State.refuse_state (s : State) (code : ReplyCode) : (s.refuse code).state = s := rfl
@[simp] theorem State.refuseField_state (s : State) (n : Nat) : (s.refuseField n).state = s := rfl

/-- The link once a reply has been made. -/
theorem State.reply_link (s : State) (r : Reply) :
    (s.reply r).link =
      { s.link with
        reply := some r, carriedOut := true, rateWindow := s.link.rateWindow && r.code = .badCheck } := rfl

end Sys2Proof.Machine
end

