-- ==== Sys2Proof/Laws/Close.lean ====
section
/-! SUPPORT. What the shared operations of a round can do: the close and its walk, the grant and its test, the lock of a
team, and one score change. -/

namespace Sys2Proof.Machine

theorem State.slotAt_setSlot (s : State) (k j : Fin 128) (x : Slot) (h : s.list.slots.length = 128) :
    (s.setSlot k x).slotAt j = if j = k then x else s.slotAt j := by
  unfold State.slotAt State.setSlot
  simp only [State.setList_list, List.getD_eq_getElem?_getD, List.getElem?_set]
  have hk : k.val < s.list.slots.length := by omega
  by_cases hj : j = k
  · subst hj; simp [hk]
  · have : ¬ k.val = j.val := fun e => hj (Fin.ext e.symm)
    simp [hj, this]

@[simp] theorem State.setSlot_length (s : State) (k : Fin 128) (x : Slot) :
    (s.setSlot k x).list.slots.length = s.list.slots.length := by simp [State.setSlot]

/-- The engine after steps 1 to 5 of the close (R47). -/
theorem State.closeRound_engine (s : State) (o : RoundOutcome) (w : Option Nat) :
    (s.closeRound o w).engine =
      ⟨.idle, none, s.engine.clock, s.engine.serial, s.engine.tieStart, s.engine.round.map Context.closed⟩ := rfl

/-- The list after steps 1 to 5 of the close (R15, R47). -/
theorem State.closeRound_list (s : State) (o : RoundOutcome) (w : Option Nat) :
    (s.closeRound o w).list =
      { s.list with
        slots := s.list.slots.set s.context.slot.val
          { s.slotAt s.context.slot with owner := .edit, result := s.resultOf o w } } := rfl

@[simp] theorem State.closeRound_arbiter (s : State) (o : RoundOutcome) (w : Option Nat) :
    (s.closeRound o w).arbiter = ⟨[], none⟩ := rfl

/-- The three ends of a walk (R16). -/
theorem State.followFrom_cases (s : State) (k : Fin 128) :
    ((s.slotAt k).setup.link = none ∧ s.followFrom k = s.parkAt k .noLink .afterClose) ∨
    (∃ j, (s.slotAt k).setup.link = some j ∧ (s.slotAt j).owner = .engine ∧ s.followFrom k = s.cueAt j) ∨
    (∃ j, (s.slotAt k).setup.link = some j ∧ (s.slotAt j).owner = .edit ∧
      s.followFrom k = s.parkAt k .notHandedOver .afterClose) := by
  unfold State.followFrom
  cases hl : (s.slotAt k).setup.link with
  | none => simp
  | some j => cases ho : (s.slotAt j).owner <;> simp [ho]

/-- The engine is CUED or IDLE after a walk, and nothing else of it changes (R16). -/
theorem State.followFrom_engine (s : State) (k : Fin 128) :
    (s.followFrom k).engine = { s.engine with state := .cued } ∨
    (s.followFrom k).engine = { s.engine with state := .idle } := by
  rcases s.followFrom_cases k with ⟨_, h⟩ | ⟨j, _, _, h⟩ | ⟨j, _, _, h⟩ <;> rw [h]
  · exact .inr rfl
  · exact .inl rfl
  · exact .inr rfl

/-- The engine after a close (R16, R47). -/
theorem State.close_engine (s : State) (o : RoundOutcome) :
    ∃ x, (x = .idle ∨ x = .cued) ∧
      (s.close o).engine =
        ⟨x, none, s.engine.clock, s.engine.serial, s.engine.tieStart, s.engine.round.map Context.closed⟩ := by
  unfold State.close
  rcases (s.closeRound o none).followFrom_engine s.context.slot with h | h <;> rw [h]
  · exact ⟨.cued, .inr rfl, rfl⟩
  · exact ⟨.idle, .inl rfl, rfl⟩

/-- A walk leaves every slot as it is (R16). -/
@[simp] theorem State.followFrom_slots (s : State) (k : Fin 128) : (s.followFrom k).list.slots = s.list.slots := by
  rcases s.followFrom_cases k with ⟨_, h⟩ | ⟨j, _, _, h⟩ | ⟨j, _, _, h⟩ <;> rw [h] <;> rfl

/-- The round's slot after steps 1 to 5 of the close (R15, R47). -/
theorem State.closeRound_slot (s : State) (o : RoundOutcome) (w : Option Nat) (h : s.list.slots.length = 128) :
    (s.closeRound o w).slotAt s.context.slot =
      { s.slotAt s.context.slot with owner := .edit, result := s.resultOf o w } := by
  simp only [State.slotAt, State.closeRound_list, List.getD_eq_getElem?_getD, List.getElem?_set]
  simp [h]

/-- The round's slot after a close (R15, R16, R47). -/
theorem State.close_slot (s : State) (o : RoundOutcome) (h : s.list.slots.length = 128) :
    (s.close o).slotAt s.context.slot =
      { s.slotAt s.context.slot with owner := .edit, result := s.resultOf o none } := by
  rw [← s.closeRound_slot o none h]
  simp only [State.slotAt, State.close, State.followFrom_slots]

/-- No round is live after a close (R21, R47). -/
@[simp] theorem State.close_live (s : State) (o : RoundOutcome) : (s.close o).live = false := by
  obtain ⟨x, hx, h⟩ := s.close_engine o
  simp only [State.live, h]
  rcases hx with rfl | rfl <;> rfl

@[simp] theorem State.close_arbiter (s : State) (o : RoundOutcome) : (s.close o).arbiter = ⟨[], none⟩ := by
  simp [State.close]

@[simp] theorem State.closeWon_engine (s : State) (w : Nat) :
    (s.closeWon w).engine = ((s.closeRound .won (some w)).followFrom s.context.slot).engine := by
  unfold State.closeWon State.beginBlink; split <;> rfl

/-- What a test of the grant condition can do (R101 to R103). -/
theorem State.testGrant_cases (s : State) :
    s.testGrant = s ∨
    (∃ c rest, s.engine.state = .settling ∧ s.arbiter.queue = c :: rest ∧ s.testGrant = s.grant c rest) ∨
    (s.engine.state = .settling ∧ s.arbiter.queue = [] ∧ s.testGrant = s.close .timedOut) := by
  unfold State.testGrant
  split
  · rename_i h
    simp only [Bool.and_eq_true, decide_eq_true_eq] at h
    cases hq : s.arbiter.queue with
    | nil => exact .inr (.inr ⟨h.1, rfl, rfl⟩)
    | cons c rest => exact .inr (.inl ⟨c, rest, h.1, rfl, rfl⟩)
  · exact .inl rfl

/-- The engine after a grant (R36, R102). -/
theorem State.grant_engine (s : State) (c : QueuedClaim) (rest : List QueuedClaim) :
    (s.grant c rest).engine =
      { s.engine with
        state := .floor
        round := s.engine.round.map fun x => x.granted c (secondsMs s.setup.answerWindow) } := rfl

@[simp] theorem State.grant_arbiter (s : State) (c : QueuedClaim) (rest : List QueuedClaim) :
    (s.grant c rest).arbiter = { s.arbiter with queue := rest } := rfl

/-- A team that joins the lock set and was not in it has the given reason; every other team is as it was (R96). -/
theorem Context.lock_of_free (c : Context) (t : Nat) (reason : LockReason) (h : c.lockOf t = none) :
    c.lock t reason = { c with locks := c.locks.set (t - 1) (some reason) } := by simp [Context.lock, h]

/-- A team already in the lock set keeps its first reason (R96). -/
theorem Context.lock_of_locked (c : Context) (t : Nat) (reason : LockReason) (h : (c.lockOf t).isSome) :
    c.lock t reason = c := by simp [Context.lock, h]

@[simp] theorem State.scoreChange_standings (s : State) (q : ScoreRequest) :
    (s.scoreChange q).standings = s.standings.apply q := rfl

@[simp] theorem State.scoreChanges_standings (s : State) (qs : List ScoreRequest) :
    (s.scoreChanges qs).standings = qs.foldl Standings.apply s.standings := by
  induction qs generalizing s with
  | nil => rfl
  | cons q qs ih => exact ih (s.scoreChange q)

/-- A score after clamping is in the score range (R138). -/
theorem clampScore_range (x : Int) : -999 ≤ clampScore x ∧ clampScore x ≤ 9999 := by
  unfold clampScore clampInt; omega

end Sys2Proof.Machine
end

