-- ==== Sys2Proof/Laws/Closes.lean ====
section
/-! SUPPORT. What a close leaves: one lemma that says of a round closed in any way all that `Closes` says, and one that
carries it over what comes before the close. -/

namespace Sys2Proof.Machine

/-- A slot after steps 1 to 5 of a close (R15, R47). -/
theorem State.closeRound_slots (s : State) (o : RoundOutcome) (w : Option Nat) (j : Fin 128)
    (h : s.list.slots.length = 128) :
    (s.closeRound o w).slotAt j =
      if j = s.context.slot then ⟨(s.slotAt s.context.slot).setup, .edit, s.resultOf o w⟩ else s.slotAt j :=
  State.slotAt_setSlot (s.stopRound.raise (s.closedEvent o w)) s.context.slot j
    { s.slotAt s.context.slot with owner := .edit, result := s.resultOf o w } h

/-- The round context after steps 1 to 5 of a close (R23, R47). -/
theorem State.closeRound_context (s : State) (o : RoundOutcome) (w : Option Nat) :
    (s.closeRound o w).context = s.context.closed := by
  unfold State.context
  rw [s.closeRound_engine o w]
  cases s.engine.round <;> rfl

/-- What steps 1 to 5 of a close and its walk leave (R15, R16, R23, R47). -/
theorem State.walk_closes (s : State) (o : RoundOutcome) (w : Option Nat) (h : s.list.slots.length = 128) :
    Closes s ((s.closeRound o w).followFrom s.context.slot) o w := by
  have hs := fun j => s.closeRound_slots o w j h
  have hk : ((s.closeRound o w).slotAt s.context.slot).setup = (s.slotAt s.context.slot).setup := by rw [hs, if_pos rfl]
  have hc := s.closeRound_context o w
  have own : ∀ j, (s.slotAt j).owner = .engine ∧ j ≠ s.context.slot ↔
      ((s.closeRound o w).slotAt j).owner = .engine := by
    intro j; rw [hs]; by_cases e : j = s.context.slot <;> simp [e]
  have hsl : ∀ j, ((s.closeRound o w).followFrom s.context.slot).slotAt j = (s.closeRound o w).slotAt j := fun j => by
    simp only [State.slotAt, State.followFrom_slots]
  unfold Closes
  refine ⟨fun j => (hsl j).trans (hs j), ?_⟩
  rcases (s.closeRound o w).followFrom_cases s.context.slot with
    ⟨hl, e⟩ | ⟨j, hl, ho, e⟩ | ⟨j, hl, ho, e⟩ <;>
    rw [hk] at hl <;> rw [e]
  · refine ⟨fun _ => ⟨rfl, rfl, rfl⟩, fun j hj => ?_, fun j hj => ?_, rfl, rfl, rfl, rfl, hc, rfl, rfl, rfl, rfl, rfl⟩ <;>
      simp [hl] at hj
  · rw [← own] at ho
    refine ⟨fun h => ?_, fun i hi _ _ => ?_, fun i hi hh => ?_, rfl, rfl, rfl, rfl, hc, rfl, rfl, rfl, rfl, rfl⟩
    · simp [hl] at h
    · obtain rfl : j = i := by simpa [hl] using hi
      exact ⟨rfl, rfl, rfl⟩
    · obtain rfl : j = i := by simpa [hl] using hi
      rcases hh with hh | hh
      · exact absurd hh ho.2
      · rw [ho.1] at hh; exact absurd hh (by simp)
  · refine ⟨fun h => ?_, fun i hi hn hh => ?_, fun i hi hh => ⟨rfl, rfl, rfl⟩, rfl, rfl, rfl, rfl, hc,
      rfl, rfl, rfl, rfl, rfl⟩
    · simp [hl] at h
    · obtain rfl : j = i := by simpa [hl] using hi
      have := (own j).mp ⟨hh, hn⟩
      rw [ho] at this; exact absurd this (by simp)

/-- What a close leaves (R47). -/
theorem State.close_closes (s : State) (o : RoundOutcome) (h : s.list.slots.length = 128) :
    Closes s (s.close o) o none :=
  s.walk_closes o none h

/-- The close WON leaves what every close does; the blink is the boards' (R47, R172). -/
theorem State.closeWon_closes (s : State) (n : Nat) (h : s.list.slots.length = 128) :
    Closes s (s.closeWon n) .won (some n) := by
  have := s.walk_closes .won (some n) h
  unfold State.closeWon State.beginBlink
  split
  · exact this
  · exact this

/-- A close depends on the round alone: a state before it that differs in what the close clears, in the answers, the
standings, the boards and the link closes alike (R47). -/
theorem Closes.of_before {s u t : State} {o : RoundOutcome} {w : Option Nat} (h : Closes u t o w)
    (hx : u.context.closed = s.context.closed) (hc : u.engine.clock = s.engine.clock)
    (hn : u.engine.serial = s.engine.serial) (ht : u.engine.tieStart = s.engine.tieStart) (hl : u.list = s.list)
    (hm : { u.consoles with floorLamps := [], lockLamps := [] } = { s.consoles with floorLamps := [], lockLamps := [] })
    (hi : u.intake = s.intake) (hf : u.free = s.free) (hp : u.pending = s.pending) : Closes s t o w := by
  have hk : u.context.slot = s.context.slot := congrArg (fun x => x.slot) hx
  have hs : u.slotAt = s.slotAt := congrArg (fun (l : RoundList) (k : Fin 128) => l.slots.getD k.val Slot.blank) hl
  have hr : u.resultOf o w = s.resultOf o w := by
    unfold State.resultOf
    rw [show u.context.kind = s.context.kind from congrArg (fun x => x.kind) hx, hc,
      show u.context.claimsAdmitted = s.context.claimsAdmitted from congrArg (fun x => x.claimsAdmitted) hx,
      show u.context.wrongCount = s.context.wrongCount from congrArg (fun x => x.wrongCount) hx]
  have hq : { u.consoles with floorLamps := List.replicate 24 .off, lockLamps := List.replicate 24 .off } =
      { s.consoles with floorLamps := List.replicate 24 .off, lockLamps := List.replicate 24 .off } :=
    congrArg (fun x : ConsoleUnit =>
      { x with floorLamps := List.replicate 24 .off, lockLamps := List.replicate 24 .off }) hm
  have hy : { u.context with
      holder := none, answerLeft := none, closeMark := none, locks := List.replicate 24 none, settleDue := false } =
      { s.context with
        holder := none, answerLeft := none, closeMark := none, locks := List.replicate 24 none
        settleDue := false } := hx
  unfold Closes at h ⊢
  rw [hk, hs, hr, hc, hn, ht, hq, hi, hf, hp, hy] at h
  exact h
end Sys2Proof.Machine
end

