-- ==== Sys2Proof/Laws/Tells.lean ====
section
/-! SUPPORT. What the shared operations of a round tell: one lemma for each says which reports it makes, in order. -/

namespace Sys2Proof.Machine

/-- What is told on the way and then from there. -/
theorem Tells.trans {s t u : State} {a b : List Report} (h : Tells s t a) (k : Tells t u b) : Tells s u (a ++ b) := by
  unfold Tells at *; rw [List.foldl_append, k, h]

/-- An operation that leaves the link alone tells nothing. -/
theorem Tells.of_link {s t : State} (h : t.link = s.link) : Tells s t [] := h

theorem State.raise_tells (s : State) (e : Event) : Tells s (s.raise e) [⟨s.serialFor e, e⟩] := rfl

/-- The serial of a report follows the engine alone (R196). -/
theorem State.serialFor_engine {s t : State} (h : t.engine = s.engine) (e : Event) : t.serialFor e = s.serialFor e := by
  unfold State.serialFor State.live; rw [h]

theorem State.raiseAll_tells (s : State) (es : List Event) :
    Tells s (s.raiseAll es) (es.map fun e => ⟨s.serialFor e, e⟩) := by
  induction es generalizing s with
  | nil => rfl
  | cons e es ih =>
    have h := ih (s.raise e)
    have hs : (fun x => (⟨(s.raise e).serialFor x, x⟩ : Report)) = fun x => ⟨s.serialFor x, x⟩ :=
      funext fun x => congrArg (fun n => (⟨n, x⟩ : Report)) (State.serialFor_engine (s := s) (t := s.raise e) rfl x)
    rw [hs] at h
    exact (s.raise_tells e).trans h

/-- The event of a score change request, with its values (R152). -/
theorem ScoreRequest.event_report (q : ScoreRequest) (x : Standings) (n : Option (BitVec 8)) :
    (⟨n, q.event x⟩ : Report) = scoreReport n q x := by
  unfold ScoreRequest.event scoreReport ScoreRequest.applied ScoreMove.wanted clampScore clampInt
  cases q.move <;> rfl

/-- A score change request tells its SCORE CHANGED (R141, R152). -/
theorem State.scoreChange_tells (s : State) (q : ScoreRequest) :
    Tells s (s.scoreChange q) [scoreReport (s.serialFor (q.event s.standings)) q s.standings] := by
  rw [← q.event_report]; rfl

/-- Share requests tell their SCORE CHANGED one after another (R126, R152). -/
theorem State.scoreChanges_tells (s : State) (qs : List ScoreRequest) (h : ∀ q ∈ qs, q.source = .share) :
    Tells s (s.scoreChanges qs) (scoreReports (some s.engine.serial) s.standings qs) := by
  induction qs generalizing s with
  | nil => rfl
  | cons q qs ih =>
    have hq : s.serialFor (q.event s.standings) = some s.engine.serial := by
      have := h q (by simp)
      simp [State.serialFor, Event.serialRule, ScoreRequest.event, this]
    have h1 := s.scoreChange_tells q
    rw [hq] at h1
    exact h1.trans (ih (s.scoreChange q) fun x hx => h x (by simp [hx]))

/-- Every request of a tally is a share (R126). -/
theorem Tally.requests_source (y : Tally) : ∀ q ∈ y.requests, q.source = .share := by
  intro q hq
  simp only [Tally.requests, List.mem_filterMap, Option.map_eq_some_iff] at hq
  obtain ⟨_, _, _, _, rfl⟩ := hq
  rfl

/-- Steps 1 to 5 of a close tell ROUND CLOSED (R47, R48). -/
theorem State.closeRound_tells (s : State) (o : RoundOutcome) (w : Option Nat) :
    Tells s (s.closeRound o w) [closeReport s o w] := rfl

/-- The walk after steps 1 to 5 of a close tells its LIST event (R14 to R16). -/
theorem State.walk_tells (s : State) (o : RoundOutcome) (w : Option Nat) (h : s.list.slots.length = 128) :
    Tells (s.closeRound o w) ((s.closeRound o w).followFrom s.context.slot) [walkReport s] := by
  have hs : ∀ j, (s.closeRound o w).slotAt j =
      if j = s.context.slot then { s.slotAt s.context.slot with owner := .edit, result := s.resultOf o w }
      else s.slotAt j := fun j => by
    have := State.slotAt_setSlot (s.stopRound.raise (s.closedEvent o w)) s.context.slot j
      { s.slotAt s.context.slot with owner := .edit, result := s.resultOf o w } h
    exact this
  unfold walkReport
  rcases (s.closeRound o w).followFrom_cases s.context.slot with ⟨hl, e⟩ | ⟨j, hl, ho, e⟩ | ⟨j, hl, ho, e⟩ <;>
    rw [e] <;> simp only [hs, if_true] at hl
  · simp only [hl]; rfl
  · simp only [hl]
    rw [hs] at ho
    split at ho
    · exact absurd ho (by simp)
    · rename_i hj; rw [if_pos ⟨hj, ho⟩]; rfl
  · simp only [hl]
    rw [hs] at ho
    rw [if_neg]
    · rfl
    · rintro ⟨hj, hk⟩; rw [if_neg hj, hk] at ho; exact absurd ho (by simp)

/-- What ROUND CLOSED carries follows the engine and the arbiter alone (R48). -/
theorem closeReport_of {s t : State} (he : t.engine = s.engine) (ha : t.arbiter = s.arbiter) (o : RoundOutcome)
    (w : Option Nat) : closeReport t o w = closeReport s o w := by
  have hc : t.context = s.context := congrArg (fun e : Engine => e.round.getD Context.blank) he
  unfold closeReport; rw [hc, he, ha]

/-- Where a walk leads follows the engine and the list alone (R16). -/
theorem walkReport_of {s t : State} (he : t.engine = s.engine) (hl : t.list = s.list) : walkReport t = walkReport s := by
  have hc : t.context = s.context := congrArg (fun e : Engine => e.round.getD Context.blank) he
  have hs : t.slotAt = s.slotAt := congrArg (fun (l : RoundList) (k : Fin 128) => l.slots.getD k.val Slot.blank) hl
  unfold walkReport; rw [hc, hs]

/-- A close tells ROUND CLOSED and the LIST event of its walk (R47). -/
theorem State.close_tells (s : State) (o : RoundOutcome) (h : s.list.slots.length = 128) :
    Tells s (s.close o) [closeReport s o none, walkReport s] :=
  (s.closeRound_tells o none).trans (s.walk_tells o none h)

/-- The close WON tells as every close does; the blink that it begins tells nothing (R47, R172). -/
theorem State.closeWon_tells (s : State) (w : Nat) (h : s.list.slots.length = 128) :
    Tells s (s.closeWon w) [closeReport s .won (some w), walkReport s] := by
  have hl : (s.closeWon w).link = ((s.closeRound .won (some w)).followFrom s.context.slot).link := by
    unfold State.closeWon State.beginBlink; split <;> rfl
  exact hl.trans ((s.closeRound_tells .won (some w)).trans (s.walk_tells .won (some w) h))

/-- The shares of a tally are told in team order, and then the close SCORED (R47, R126). -/
theorem State.payShares_tells (s : State) (y : Tally) (h : s.list.slots.length = 128) :
    Tells s (s.payShares y)
      (scoreReports (some s.engine.serial) s.standings y.requests ++ [closeReport s .scored none, walkReport s]) := by
  have hf : (s.scoreChanges y.requests).engine = s.engine ∧ (s.scoreChanges y.requests).arbiter = s.arbiter ∧
      (s.scoreChanges y.requests).list = s.list := by simp
  have hc := (s.scoreChanges y.requests).close_tells .scored (by rw [hf.2.2]; exact h)
  rw [closeReport_of hf.1 hf.2.1, walkReport_of hf.1 hf.2.2] at hc
  exact (s.scoreChanges_tells y.requests y.requests_source).trans hc

end Sys2Proof.Machine
end

