-- ==== Sys2Proof/Tests/Slice0.lean ====
section
/-! SUPPORT. The model's own tests: an ill-formed term for each check of `Instr.wellFormed`; for each statement with
hypotheses, concrete states and operands that meet them, at the boundary values of its clauses; and the spec's worked
examples. -/

namespace Sys2Proof.Tests
set_option Elab.async false
open Sys2Proof Sys2Proof.Machine

/-! ### States that the tests start from -/

/-- A BUZZ descriptor that passes every check of HAND OVER. -/
def buzz : Descriptor :=
  { Descriptor.blank with
    kind := .buzz, basePoints := 100, penalty := 50, bonusMax := 50, bonusWindow := 80, streakScoring := true }

/-- A CHOICE descriptor with a key. -/
def choice (k : RoundKey) : Descriptor := { Descriptor.blank with kind := .choice, basePoints := 60, key := k }

/-- A POLL descriptor. -/
def poll : Descriptor := { Descriptor.blank with kind := .poll }

/-- A slot with a descriptor, handed over. -/
def handed (d : Descriptor) : Slot := ⟨d, .engine, RoundResult.cleared⟩

/-- All 24 teams playing. -/
def everyone : Standings :=
  { Standings.reset with teams := List.replicate 24 { TeamRecord.reset with playing := true } }

/-- A round list with two slots of its own and the pointer at slot 0. -/
def listOf (a b : Slot) (park : Option (ParkReason × ParkBasis)) : RoundList :=
  ⟨a :: b :: List.replicate 126 Slot.blank, 0, park⟩

/-- CUED at slot 0, which holds `d`. -/
def cued (d : Descriptor) : State :=
  ((State.reset.setList (listOf (handed d) Slot.blank none)).setEngine
    { Engine.reset with state := .cued }).setStandings everyone

/-- A live round of `d` at slot 0, its clock at 1000, its context made by `c`. -/
def inRound (d : Descriptor) (x : EngineState) (c : Context → Context) : State :=
  (cued d).setEngine ⟨x, none, 1000, 1, 7, some (c (Context.fresh 0 d.kind 1 10000))⟩

/-- An open round, its round timer with `left` ms to go. -/
def openAt (t left : Nat) (c : Context) : Context := { c with openTime := some t, roundLeft := some left }

/-- Team 3 holds the floor, with `left` ms to answer. -/
def floorOf3 (left : Nat) (c : Context) : Context :=
  { openAt 200 5000 c with holder := some ⟨3, 400, .console 3, 1⟩, answerLeft := some left, claimsAdmitted := 1 }

/-- A command at the front of the buffer of a link in TWO-WIRE. -/
def waiting (i : Instr) (s : State) : State :=
  s.setLink { s.link with mode := .twoWire, buffer := i.frame.toList }

/-- The state that a state's next step leaves; the state itself where the step stops. -/
def after (s : State) : State :=
  match step s with
  | .next t => t
  | .fault _ => s
  | .refused _ => s

/-- The step at the front of the queue. -/
def doing (i : Instr) (s : State) : State := s.setPending [i]

/-! ### Ill-formed terms -/

/-- Every check on the operands refuses a term that breaks it. -/
theorem test_illFormed :
    (Instr.commandFrameComplete ⟨0x01, List.replicate 63 0, 0⟩).wellFormed = false ∧
    (Instr.unknownKind ⟨0x01, List.replicate 63 0, 0⟩).wellFormed = false ∧
    (Instr.linkFrameAbandoned 1).wellFormed = false ∧ (Instr.linkFrameAbandoned 63).wellFormed = false ∧
    (Instr.setTeam 1 4 (List.replicate 9 0x41) 1 0).wellFormed = false ∧
    (Instr.setHouse 1 4 (List.replicate 11 0x41) 1 0 0).wellFormed = false ∧
    (Instr.setPlacePoints [1, 2, 3, 4, 5, 6, 7]).wellFormed = false ∧
    (∀ n ∈ [0, 25], (Instr.lineRunStart n).wellFormed = false ∧ (Instr.lineReady n).wellFormed = false ∧
      (Instr.linePressAccepted n).wellFormed = false ∧ (Instr.lineReleaseAccepted n).wellFormed = false ∧
      (Instr.stuck n).wellFormed = false ∧ (Instr.cleared n).wellFormed = false ∧
      (Instr.winnerBlinkEnd n).wellFormed = false) := by
  decide +kernel

/-- The terms at the other side of each check are well formed. -/
theorem test_wellFormed :
    (Instr.commandFrameComplete ⟨0x01, List.replicate 62 0, 0⟩).wellFormed = true ∧
    (Instr.linkFrameAbandoned 0).wellFormed = true ∧ (Instr.linkFrameAbandoned 64).wellFormed = true ∧
    (Instr.setTeam 1 4 (List.replicate 10 0x41) 1 0).wellFormed = true ∧
    (Instr.setPlacePoints [1, 2, 3, 4, 5, 6, 7, 8]).wellFormed = true ∧
    (∀ n ∈ [1, 24], (Instr.lineReady n).wellFormed = true ∧ (Instr.winnerBlinkEnd n).wellFormed = true) := by
  decide +kernel

/-! ### The step, the invariants and the wire forms -/

/-- A state with every store at its limit, and a tick to come. -/
def brimful : State :=
  let e : FifoEntry := ⟨0, 1, .buzz, 0, false, 0, 1, false, none⟩
  let r : Report := ⟨none, .freezeReleased⟩
  doing (.tick 0)
    ((((inRound buzz .opened (openAt 0 5)).setEngine ⟨.opened, none, 1048575, 1, 7, none⟩).setIntake
      { Intake.reset with fifo := List.replicate 32 e, taking := true }).setLink
      { Link.reset with
        mode := .twoWire, queue := List.replicate 48 r, dropped := 255, lost := true, buffer := [⟨1, [], 0⟩, ⟨1, [], 0⟩] })

theorem test_meets_StoresKeepWithinCapacity :
    WithinCapacity brimful ∧ step brimful = .next (after brimful) := by
  refine ⟨?_, rfl⟩
  unfold WithinCapacity
  decide +kernel

/-- Standings at both ends of their ranges. -/
def extremes : Standings :=
  let top : TeamRecord := ⟨true, blankName, 6, 9999, 9, 255, 255, 16777215, true⟩
  let low : TeamRecord := ⟨true, blankName, 0, -999, 0, 0, 0, 0, true⟩
  { Standings.reset with
    teams := top :: low :: List.replicate 22 TeamRecord.reset
    counter := 16777215
    houses := ⟨blankName, true, 999999, 255⟩ :: ⟨blankName, true, -99999, 0⟩ :: List.replicate 4 HouseRecord.reset
    placePoints := [100, 0, 0, 0, 0, 0, 0, 0] }

theorem test_meets_StandingsStayInRange :
    StandingsInRange extremes ∧
      step (doing (.adjustScore 1 1) (State.reset.setStandings extremes))
        = .next (after (doing (.adjustScore 1 1) (State.reset.setStandings extremes))) := by
  refine ⟨?_, rfl⟩
  unfold StandingsInRange TeamInRange HouseInRange
  decide +kernel

/-- A pause of a BUZZ round with the floor held. -/
def pausedFloor : State :=
  doing .resume
    ((inRound buzz .paused (floorOf3 5000)).setEngine
      ⟨.paused, some .floor, 1000, 1, 7, some (floorOf3 5000 (Context.fresh 0 .buzz 1 10000))⟩)

theorem test_meets_EngineKeepsFitting :
    EngineFits pausedFloor ∧ step pausedFloor = .next (after pausedFloor) := by
  refine ⟨⟨by decide +kernel, ?_, by decide +kernel, by decide +kernel, by decide +kernel⟩, rfl⟩
  intro x h
  have : x = .floor := (Option.some.inj h).symm
  rw [this]
  rfl

theorem test_meets_ListPositionKeepsFitting :
    ListFits pausedFloor ∧ ListFits (doing .go State.reset) ∧
      step (doing .go State.reset) = .next (after (doing .go State.reset)) := by
  refine ⟨?_, ?_, rfl⟩ <;> unfold ListFits <;> decide +kernel

/-- Two claims with one stamp, ordered by tie rank, behind a floor holder. -/
def queued : State :=
  doing (.judge 1)
    ((inRound buzz .floor (floorOf3 5000)).setArbiter
      ⟨[⟨7, 500, .console 7, 2⟩, ⟨8, 500, .console 8, 3⟩], none⟩)

/-- A round in SETTLING in which time was called at 990, with the latest stamp that may stay in the queue. -/
def calledWithClaim : State :=
  doing .settleDeadlineReached
    ((inRound buzz .settling fun c => { openAt 200 0 c with timeCalled := true, expiryStamp := some 990 }).setArbiter
      ⟨[⟨24, 989, .console 24, 1⟩], none⟩)

/-- A pause of OPEN in which a claim has been admitted. -/
def pausedWithClaim : State :=
  doing .resume
    (((cued buzz).setEngine
        ⟨.paused, some .opened, 1000, 1, 7,
          some { openAt 200 5000 (Context.fresh 0 .buzz 1 10000) with settleDue := true }⟩).setArbiter
      ⟨[⟨1, 200, .console 1, 1⟩], none⟩)

theorem engineFits_of {s : State} (h1 : s.engine.state = .paused ↔ s.engine.remembered.isSome)
    (h2 : ∀ x ∈ s.engine.remembered.toList, x.pausable) (h3 : s.live = true → s.engine.round.isSome)
    (h4 : s.context.holder.isSome ↔ s.phase = .floor)
    (h5 : s.phase = .tallying ∨ s.phase = .awaitKey → s.context.kind ≠ .buzz) : EngineFits s :=
  ⟨h1, fun x hx => h2 x (by simp [hx]), h3, h4, h5⟩

theorem queueFits_of {s : State} {o : Nat} (ho : s.context.openTime = some o)
    (h1 : s.arbiter.queue.Pairwise fun a b => b.before s.engine.tieStart a = false)
    (h2 : (s.arbiter.queue.map QueuedClaim.team).Nodup)
    (h3 : ∀ c ∈ s.arbiter.queue,
      isTeamNumber c.team = true ∧ s.context.lockOf c.team = none ∧ s.context.holder.map Holder.team ≠ some c.team ∧
        o ≤ c.stamp ∧ (s.context.timeCalled = true → c.stamp < s.context.expiryStamp.getD 0))
    (h4 : ∀ h ∈ s.context.holder.toList, isTeamNumber h.team = true)
    (h5 : s.arbiter.queue ≠ [] → s.phase = .opened ∨ s.phase = .settling ∨ s.phase = .floor)
    (h6 : s.phase = .settling ∨ s.phase = .floor ∨ s.arbiter.queue ≠ [] → s.context.kind = .buzz)
    (h7 : s.phase = .opened → s.arbiter.queue ≠ [] → s.context.settleDue = true)
    (h8 : s.context.settleDue = true → s.engine.remembered = some .opened ∧ s.context.kind = .buzz) : QueueFits s :=
  ⟨h1, h2, fun c hc => ⟨(h3 c hc).1, (h3 c hc).2.1, (h3 c hc).2.2.1, ⟨o, ho, (h3 c hc).2.2.2.1⟩,
      fun e ht he => by simpa [he] using (h3 c hc).2.2.2.2 ht⟩,
    fun h hh => h4 h (by simp [hh]), h5, h6, h7, h8⟩

theorem test_meets_ClaimQueueKeepsFitting :
    (EngineFits queued ∧ QueueFits queued ∧ step queued = .next (after queued)) ∧
    (EngineFits calledWithClaim ∧ QueueFits calledWithClaim ∧ step calledWithClaim = .next (after calledWithClaim)) ∧
    (EngineFits pausedWithClaim ∧ QueueFits pausedWithClaim ∧ step pausedWithClaim = .next (after pausedWithClaim)) := by
  refine ⟨⟨engineFits_of ?_ ?_ ?_ ?_ ?_, queueFits_of (o := 200) rfl ?_ ?_ ?_ ?_ ?_ ?_ ?_ ?_, rfl⟩,
    ⟨engineFits_of ?_ ?_ ?_ ?_ ?_, queueFits_of (o := 200) rfl ?_ ?_ ?_ ?_ ?_ ?_ ?_ ?_, rfl⟩,
    ⟨engineFits_of ?_ ?_ ?_ ?_ ?_, queueFits_of (o := 200) rfl ?_ ?_ ?_ ?_ ?_ ?_ ?_ ?_, rfl⟩⟩ <;>
  decide +kernel

/-- A roster with two handsets. -/
def twoHandsets : List (Option RosterEntry) :=
  some ⟨1234, 3, 1, none, none, false, false⟩ :: some ⟨1235, 0, 2, some 5, some 1, true, false⟩ :: List.replicate 190 none

/-- The boards HELD. -/
def heldBoards : Board := { Board.reset.markAll true with state := .held, snapshot := some Snapshot.blank }

theorem test_meets_RosterAndBoardsKeepFitting :
    RosterFits { Intake.reset with roster := twoHandsets } ∧ BoardFits Board.reset ∧ BoardFits heldBoards ∧
      step (doing .takeComplete State.reset) = .next (after (doing .takeComplete State.reset)) := by
  refine ⟨?_, ?_, ?_, rfl⟩
  · unfold RosterFits
    decide +kernel
  · unfold BoardFits
    decide +kernel
  · unfold BoardFits
    decide +kernel

/-- A fetch under way in SINGLE-WIRE, its reply sent and two reports to go. -/
def fetching : Link :=
  { Link.reset with
    mode := .singleWire, fetchLeft := 2, buffer := [⟨0x06, [2], 0xF6⟩], carriedOut := true
    queue := [⟨none, .freezeReleased⟩, ⟨none, .revealComplete⟩] }

theorem test_meets_LinkKeepsFitting :
    LinkFits fetching ∧ RepliesFit fetching ∧ LinkFits Link.reset ∧
      LinkFits { Link.reset with mode := .twoWire, hold := some 65535 } ∧
      step (doing .reportSendBegin (State.reset.setLink fetching))
        = .next (after (doing .reportSendBegin (State.reset.setLink fetching))) ∧
      (after (doing .reportSendBegin (State.reset.setLink fetching))).link.line = .report ⟨none, .freezeReleased⟩ := by
  refine ⟨?_, ⟨by decide +kernel, by decide +kernel, by decide +kernel, ?_, ?_⟩, ?_, ?_, rfl, by decide +kernel⟩
  · unfold LinkFits
    decide +kernel
  · intro _ r h
    exact nomatch h
  · intro _ h
    exact nomatch h
  · unfold LinkFits
    decide +kernel
  · unfold LinkFits
    decide +kernel

theorem test_meets_CommandFramesReadBack :
    (Instr.setTeam 24 10 (List.replicate 10 0x7E) 1 6).wellFormed = true ∧
    (Instr.setTeam 24 10 (List.replicate 10 0x7E) 1 6).frame
      = some ⟨0x34, [24, 10] ++ List.replicate 10 0x7E ++ [1, 6], 0xA8⟩ ∧
    Instr.identify.frame = some ⟨0x01, [], 0xFE⟩ := by
  decide +kernel

theorem test_meets_FramesAreCommandsOrFail :
    (LinkFrame.checkGood ⟨0x01, [], 0xFE⟩ = true ∧ payloadLength 0x01 = some 0) ∧
    LinkFrame.checkGood ⟨0x01, [], 0xFF⟩ = false ∧
    (LinkFrame.checkGood ⟨0x08, [], 0xF7⟩ = true ∧ payloadLength 0x08 = none) ∧
    (LinkFrame.checkGood ⟨0x02, [], 0xFD⟩ = true ∧ payloadLength 0x02 = some 1) ∧
    (State.reset.setLink { Link.reset with mode := .twoWire, buffer := [⟨0x02, [], 0xFD⟩] }).frontFrame
      = some ⟨0x02, [], 0xFD⟩ ∧
    frameFailure ⟨0x02, [], 0xFD⟩ = some .badLength := by
  decide +kernel

/-! ### The resets -/

/-- A state in which the show reset is due. -/
def resetDue (s : State) : State := s.setLink { s.link with mode := .twoWire, showReset := .due }

theorem test_meets_ShowResetReturnsToTheStart :
    (resetDue State.reset).link.showReset = .due ∧ (resetDue State.reset).list.slots.length = 128 ∧
    (resetDue State.reset).live = false ∧
    (resetDue (inRound buzz .floor (floorOf3 5000))).list.slots.length = 128 ∧
    (resetDue (inRound buzz .floor (floorOf3 5000))).live = true ∧
    (∀ b ∈ [{ Board.reset with chain := .poll 24 3 false }, { Board.reset with chain := .refresh 0 (State.reset.target 0) false }],
      ((resetDue State.reset).setBoard b).board.chain = b.chain ∧ b.chain ≠ .free) ∧ Board.reset.chain = .free := by
  decide +kernel

/-! ### The control link -/

/-- A link in a mode, receiving what `r` says after a gap of `gap` ms. -/
def linkAt (m : LinkMode) (r : Option (List Byte)) (gap : Nat) : Link :=
  { Link.reset with mode := m, receiving := r, gap := gap }

theorem test_meets_LinkBytesSelectTheModeAndFormFrames :
    State.reset.link.mode = .listen ∧
    (∀ m ∈ [LinkMode.singleWire, .twoWire],
      m ≠ .listen ∧ (linkAt m none 0).deaf = false ∧ (linkAt m none 0).receiving = none ∧
      (linkAt m (some []) 20).gap ≤ 20 ∧ (∀ b ∈ [(1 : Byte), 63], b ≠ 0 ∧ b.toNat ≤ 63) ∧
      (linkAt m (some [2, 0x02]) 20).receiving = some [2, 0x02] ∧ [(0x02 : Byte)].length < (2 : Byte).toNat ∧
      20 < (linkAt m (some [2]) 21).gap) ∧
    { linkAt .singleWire none 0 with line := .reply ⟨1, .done, []⟩ }.deaf = true ∧ fetching.deaf = true := by
  decide +kernel

theorem test_meets_FramesJoinTheBufferOrAreAbandoned :
    (∀ n ∈ [0, 62], LinkFrame.wellFormed ⟨0x01, List.replicate n 0, 0⟩ = true) ∧
    (linkAt .twoWire none 0).mode ≠ .listen ∧ (linkAt .twoWire none 0).deaf = false ∧
    { linkAt .twoWire none 0 with buffer := [⟨1, [], 0xFE⟩] }.buffer.length < 2 ∧
    ¬{ linkAt .twoWire none 0 with buffer := [⟨1, [], 0xFE⟩, ⟨1, [], 0xFE⟩] }.buffer.length < 2 ∧
    (∀ n ∈ [(0 : Byte), 64, 255], n = 0 ∨ 63 < n.toNat) ∧
    ((linkAt .twoWire (some []) 20).receiving = some [] ∧ (linkAt .twoWire (some []) 20).gap ≤ 20) ∧
    ((linkAt .twoWire (some [3]) 20).receiving = some [3] ∧ 20 ≤ (linkAt .twoWire (some [3]) 20).gap) := by
  decide +kernel

theorem test_meets_DeskFramesArriveAndWait :
    (Instr.setGuestMap (BitVec.allOnes 64)).wellFormed = true ∧
    (Instr.setGuestMap (BitVec.allOnes 64)).frame = some ⟨0x2B, List.replicate 8 0xFF, 0xD4⟩ ∧
    (linkAt .twoWire none 0).mode ≠ .listen ∧ (linkAt .twoWire none 0).deaf = false ∧
    (linkAt .twoWire none 0).receiving = none ∧ (linkAt .twoWire none 0).buffer = [] ∧
    (linkAt .twoWire none 0).carriedOut = false ∧ (linkAt .twoWire none 0).showReset ≠ .due ∧
    (∀ s ∈ [waiting .identify State.reset], s.waitingCommand = some .identify ∧ s.link.buffer ≠ [] ∧
      s.link.deaf = false ∧ s.link.receiving = none) := by
  decide +kernel

theorem test_meets_IdentifyAnswers : (waiting .identify State.reset).waitingCommand = some .identify := by
  decide +kernel

/-- A command at the front of the buffer of a link in SINGLE-WIRE with the rate window open. -/
def waitingAlone (i : Instr) (s : State) : State :=
  s.setLink { s.link with mode := .singleWire, rateWindow := true, buffer := i.frame.toList }

theorem test_meets_LinkCommandsAnswer :
    (∀ i ∈ [Instr.statusGet, .setRate 3, .setRate 4, .setNoticeMask 4095, .setNoticeMask 4096, .holdReports 0,
        .holdReports 65535, .fetchReports 0, .fetchReports 1, .fetchReports 8, .fetchReports 9, .showReset],
      (waiting i State.reset).waitingCommand = some i ∧ (waiting i State.reset).link.rateWindow = false ∧
      (waiting i State.reset).link.mode = .twoWire ∧
      (waitingAlone i State.reset).waitingCommand = some i ∧ (waitingAlone i State.reset).link.rateWindow = true ∧
      (waitingAlone i State.reset).link.mode = .singleWire) ∧
    (3 < (4 : Byte).toNat ∧ (3 : Byte).toNat ≤ 3) ∧
    ((4095 : BitVec 16).toNat < 4096 ∧ 4096 ≤ (4096 : BitVec 16).toNat) ∧
    ((1 : Byte).toNat ≤ 8 ∧ (8 : Byte).toNat ≤ 8 ∧ 8 < (9 : Byte).toNat) := by
  decide +kernel

theorem test_meets_RepliesAndReportsAreSent :
    { Link.reset with mode := .twoWire, reply := some ⟨1, .done, []⟩ }.reply = some ⟨1, .done, []⟩ ∧
    { Link.reset with mode := .twoWire, line := .reply ⟨1, .done, []⟩ }.line = .reply ⟨1, .done, []⟩ ∧
    (fetching.queue = [⟨none, .freezeReleased⟩, ⟨none, .revealComplete⟩] ∧ fetching.line = .free ∧ fetching.reply = none ∧
      fetching.mode = .singleWire ∧ 0 < fetching.fetchLeft ∧ { fetching with fetchLeft := 0 }.fetchLeft = 0) ∧
    { fetching with mode := .twoWire }.hold = none ∧ { fetching with mode := .twoWire, hold := some 0 }.hold ≠ none ∧
    { Link.reset with hold := some 0 }.hold = some 0 ∧
    ({ brimful.link with line := .report ⟨none, .freezeReleased⟩ }.line = .report ⟨none, .freezeReleased⟩ ∧
      brimful.link.queue ≠ [] ∧ brimful.link.queue.length ≤ 48) := by
  decide +kernel

theorem test_meets_EventsAreFlaggedAndQueued :
    (Link.reset.mask.getLsbD (Event.cls .freezeReleased).place = true ∧ Link.reset.queue.length < 48) ∧
    { Link.reset with mask := 0 }.mask.getLsbD (Event.cls (.queueOverflow 1)).place = false ∧
    (brimful.link.mask.getLsbD (Event.cls (.queueOverflow 1)).place = true ∧ 48 ≤ brimful.link.queue.length) ∧
    brimful.link.queue.tail.length < 48 ∧
    (State.reset.live = false ∧ State.reset.serialFor (.lineStuck 24 .pressed) = none ∧
      (inRound buzz .paused id).live = true ∧ (inRound buzz .paused id).serialFor (.lineCleared 24 65535) = some 1) := by
  decide +kernel

/-! ### The Round List -/

/-- Slot 0 is parked at with a link, which names slot `k` of two. -/
def linkedTo (k : Option (Fin 128)) (b : Slot) (basis : ParkBasis) : State :=
  State.reset.setList (listOf ⟨{ buzz with link := k }, .edit, RoundResult.cleared⟩ b (some (.noLink, basis)))

/-- The payload of WRITE ROUND that carries `buzz`. -/
def buzzPayload : DescriptorPayload :=
  ⟨1, 0xFF, 100, 50, 50, 80, 300, 10, 10, 10, 3, 1, 0, 1, 1, 4, 1, 1, BitVec.allOnes 24⟩

theorem test_meets_WriteAndReadRound :
    (∀ k ∈ [(0 : Byte), 127, 128],
      (waiting (.writeRound k buzzPayload) State.reset).waitingCommand = some (.writeRound k buzzPayload) ∧
      (waiting (.readRound k) State.reset).waitingCommand = some (.readRound k)) ∧
    DescriptorPayload.ofBytes buzz.bytes = some buzzPayload ∧
    (State.reset.slotAt 127).owner = .edit ∧ ((cued buzz).slotAt 0).owner = .engine ∧
    firstFailing (codeChecks { buzzPayload with kind := 4 }) = some 1 ∧
    firstFailing (codeChecks { buzzPayload with answerLock := 2 }) = some 18 := by
  decide +kernel

theorem test_meets_HandOverAndTakeBack :
    (∀ k ∈ [(0 : Byte), 127, 128],
      (waiting (.handOver k) State.reset).waitingCommand = some (.handOver k) ∧
      (waiting (.takeBack k) State.reset).waitingCommand = some (.takeBack k)) ∧
    (firstFailing buzz.checks = none ∧ firstFailing (choice .held).checks = none ∧ firstFailing poll.checks = none) ∧
    firstFailing { buzz with wrongLimit := 25 }.checks = some 11 ∧ firstFailing { buzz with wrongLimit := 24 }.checks = none ∧
    firstFailing { buzz with timeLimit := 9, wrongLimit := 25 }.checks = some 7 ∧
    firstFailing { choice (.given .e) with teamSet := 0 }.checks = some 17 ∧ firstFailing Descriptor.blank.checks = some 1 ∧
    ((linkedTo none Slot.blank .atSlot).slotAt 0).owner = .edit ∧ ((cued buzz).slotAt 0).owner = .engine ∧
    (State.reset.engine.state = .idle ∧ (cued buzz).engine.state = .cued ∧ (cued buzz).list.pointer = 0) ∧
    ((inRound buzz .reading id).live = true ∧ (inRound buzz .reading id).list.pointer = 0) := by
  decide +kernel

theorem test_meets_SetPointerAndGo :
    (∀ k ∈ [(0 : Byte), 127, 128], (waiting (.setPointer k) (cued buzz)).waitingCommand = some (.setPointer k)) ∧
    (cued buzz).live = false ∧ (inRound buzz .paused id).live = true ∧
    (∀ s ∈ [cued buzz, State.reset, linkedTo none Slot.blank .afterClose], (waiting .go s).waitingCommand = some .go) ∧
    ((cued buzz).engine.state ≠ .idle ∧ State.reset.list.park = some (.notHandedOver, .atSlot)) ∧
    ((State.reset.slotAt 0).owner = .edit ∧
      ((State.reset.setList (listOf (handed buzz) Slot.blank (some (.notHandedOver, .atSlot)))).slotAt 0).owner = .engine) ∧
    ((linkedTo none Slot.blank .afterClose).list.park = some (.noLink, .afterClose) ∧
      ((linkedTo none Slot.blank .afterClose).slotAt 0).setup.link = none) ∧
    (((linkedTo (some 1) (handed poll) .afterClose).slotAt 0).setup.link = some 1 ∧
      ((linkedTo (some 1) (handed poll) .afterClose).slotAt 1).owner = .engine) ∧
    ((linkedTo (some 127) (handed poll) .afterClose).slotAt 127).owner = .edit := by
  decide +kernel

theorem test_meets_CloseWritesTheOutcomeAndWalks :
    (inRound buzz .reading id).list.slots.length = 128 ∧ (inRound buzz .reading id).engine.clock ≤ clockMax ∧
    (inRound buzz .reading id).context.kind = .buzz ∧ (inRound poll .reading id).context.kind ≠ .buzz ∧
    ((inRound buzz .reading id).slotAt 0).setup.link = none ∧
    (∀ k ∈ [(0 : Fin 128), 1], ((inRound { buzz with link := some k } .reading id).slotAt 0).setup.link = some k) ∧
    ((inRound buzz .reading id).slotAt 1).owner = .edit := by
  decide +kernel

/-! ### The Round Engine and the Answer Collector -/

/-- Every state of the engine. -/
def engineStates : List EngineState :=
  [.idle, .cued, .reading, .opened, .settling, .floor, .tallying, .awaitKey, .paused]

theorem test_meets_EngineCommandsAreRefused :
    (∀ x ∈ engineStates, ∀ i ∈ [Instr.startRound, .openRound, .closeRound, .judge 0, .judge 1, .judge 2, .revealKey 0,
        .revealKey 6, .revealKey 7, .pause, .resume, .abandon],
      (waiting i (inRound buzz x id)).waitingCommand = some i ∧ (inRound buzz x id).engine.state = x) ∧
    ((cued buzz).setStandings { everyone with frozen := true }).standings.frozen = true ∧
    (inRound buzz .opened id).context.kind = .buzz ∧
    1 < (2 : Byte).toNat ∧ 6 < (7 : Byte).toNat ∧
    (inRound (choice .held) .awaitKey id).setup.options.toNat < (5 : Byte).toNat := by
  decide +kernel

theorem test_meets_RoundsStartAndOpen :
    ((waiting .startRound (cued buzz)).waitingCommand = some .startRound ∧ (cued buzz).engine.state = .cued ∧
      (cued buzz).standings.frozen = false ∧ (cued buzz).list.slots.length = 128) ∧
    (∀ ms ∈ [0, 1], (inRound buzz .reading fun c => { c with readingLeft := ms }).engine.round
      = some { Context.fresh 0 .buzz 1 10000 with readingLeft := ms }) ∧
    ((waiting .openRound (inRound buzz .reading id)).waitingCommand = some .openRound ∧
      (inRound buzz .reading id).engine.state = .reading ∧ (inRound buzz .reading id).engine.remembered = none) := by
  decide +kernel

/-- A pause with a state remembered. -/
def pausedIn (x : EngineState) (c : Context → Context) : State :=
  (cued buzz).setEngine ⟨.paused, some x, 1000, 1, 7, some (c (Context.fresh 0 .buzz 1 10000))⟩

theorem test_meets_RoundsPauseResumeAndAbandon :
    (inRound buzz .opened id).list.slots.length = 128 ∧
    (∀ x ∈ [EngineState.reading, .opened, .settling, .floor, .awaitKey],
      (waiting .pause (inRound buzz x id)).waitingCommand = some .pause ∧
      (waiting .resume (pausedIn x id)).waitingCommand = some .resume ∧ (pausedIn x id).engine.state = .paused ∧
      (pausedIn x id).engine.remembered = some x ∧ x ≠ .paused) ∧
    ((pausedIn .opened id).context.settleDue = false ∧
      (pausedIn .opened fun c => { c with settleDue := true }).context.settleDue = true) ∧
    (∀ x ∈ [EngineState.reading, .tallying, .awaitKey, .paused],
      (waiting .abandon (inRound (choice .held) x id)).waitingCommand = some .abandon ∧
      (inRound (choice .held) x id).live = true ∧ (inRound (choice .held) x id).answers.tallyState = .none) := by
  decide +kernel

/-- A claim recorded before a pause of OPEN is admitted in the pause and leaves the change to SETTLING due. A false start of
its team then withdraws it, and RESUME makes the change all the same (R45, R94). -/
theorem test_settlesAtResume :
    ∀ s ∈ [pausedIn .opened (openAt 200 5000)],
    ∀ t ∈ [s.offer ⟨4, 900, .handset 1234 0, some 950, false⟩],
    ∀ u ∈ [t.offer ⟨4, 100, .handset 1234 0, some 150, false⟩],
      s.context.settleDue = false ∧ s.resume.engine.state = .opened ∧
      t.engine.state = .paused ∧ t.phase = .opened ∧ t.context.settleDue = true ∧ t.arbiter.queue.length = 1 ∧
      u.arbiter.queue = [] ∧ u.context.lockOf 4 = some .falseStart ∧ u.context.settleDue = true ∧
      u.resume.engine.state = .settling ∧ u.resume.context.settleDue = false := by
  decide +kernel

/-- An entry of the FIFO that arrived in the round at clock `a`. -/
def arrivedAt (a : Nat) (k : PadKey) : FifoEntry := ⟨0, 1234, k, 3, false, 20, 1, false, some a⟩

/-- The intake holding one entry of the round. -/
def holding (s : State) (a : Nat) : State :=
  s.setIntake { s.intake with fifo := [arrivedAt a (.option .a)], taking := true }

theorem test_meets_RoundsAreTallied :
    ∀ d ∈ [choice .held, choice (.given .f), poll], ∀ left ∈ [0, 1], ∀ s ∈ [inRound d .opened (openAt 200 left)],
      s.list.slots.length = 128 ∧ s.engine.state = .opened ∧ s.engine.remembered = none ∧
      (s.context.kind = .choice ∨ s.context.kind = .poll) ∧ s.engine.round.isSome = true ∧
      (waiting .closeRound s).waitingCommand = some .closeRound ∧ s.context.roundLeft = some left ∧
      (holding s 1000).intakeHolds s.engine.clock = true ∧ (holding s 1001).intakeHolds s.engine.clock = false := by
  decide +kernel

/-- The tally of a round in TALLYING waits for an entry that arrived by the close mark, and completes without one; then the
round has closed, but for a HELD key. -/
theorem test_tallyCompletes :
    ∀ q ∈ [(choice .held, EngineState.awaitKey), (choice (.given .f), .idle), (poll, .idle)],
      ∀ s ∈ [inRound q.1 .tallying fun c => { openAt 200 0 c with closeMark := some 1000 }],
        s.list.slots.length = 128 ∧ s.context.closeMark = some 1000 ∧
        (s.context.kind = .choice ∨ s.context.kind = .poll) ∧ (holding s 1000).intakeHolds 1000 = true ∧
        (holding s 1000).testTally = holding s 1000 ∧ (holding s 1001).intakeHolds 1000 = false ∧
        (holding s 1001).testTally.engine.state = q.2 := by
  decide +kernel

/-- An answer table with three answers of team 3 and one of the audience. -/
def fourAnswers : List (Option AnswerEntry) :=
  [some ⟨1, some 3, .a, 300, 0⟩, some ⟨2, some 3, .b, 310, 0⟩, some ⟨3, some 3, .a, 320, 0⟩, some ⟨4, some 0, .f, 330, 0⟩]
    ++ List.replicate 252 none

/-- A round awaiting its key, counted. -/
def awaiting : State :=
  let s := (inRound { choice .held with options := 6 } .awaitKey (openAt 200 0)).setAnswers
    { Collector.reset with table := fourAnswers, tableSerial := some 1 }
  s.setTally .counted (some s.countNow)

theorem test_meets_RevealKeyScoresTheRound :
    ∀ p ∈ [(OptKey.a, (1 : Byte)), (OptKey.f, 6)],
      (waiting (.revealKey p.2) awaiting).waitingCommand = some (.revealKey p.2) ∧ awaiting.list.slots.length = 128 ∧
      awaiting.engine.state = .awaitKey ∧ awaiting.engine.round.isSome = true ∧
      awaiting.answers.tally = some awaiting.countNow ∧ p.1.code = p.2 ∧ p.1.place ≤ awaiting.setup.options.toNat := by
  decide +kernel

/-- An option key from the handset at a roster position, or from a guest. -/
def keyFrom (position team : Option Nat) (k : OptKey) (stamp : Int) (arrival : Nat) (paused : Bool) : AnswerKey :=
  ⟨1234, position, team, k, stamp, arrival, paused⟩

/-- A collector whose table has an entry at position 0, and every guest slot taken by another handset when `full`. -/
def tableWith (full : Bool) : Collector :=
  { Collector.reset with
    table := some ⟨1234, some 3, .a, 300, 15⟩ :: List.replicate 191 none
      ++ List.replicate 64 (if full then some ⟨9, none, .a, 300, 0⟩ else none) }

/-- Each outcome of an option key is met, at the boundary values of the checks. -/
theorem test_meets_AnswersAreCheckedAndRecorded :
    (inRound buzz .opened (openAt 200 1)).answerOutcome (keyFrom (some 0) (some 3) .a 200 300 false) = .ignored ∧
    ∀ s ∈ [(inRound (choice .held) .opened (openAt 200 1)).setAnswers (tableWith false)],
    ∀ u ∈ [(inRound { poll with answerLock := .first } .opened (openAt 200 1)).setAnswers (tableWith true)],
      (s.answerOutcome (keyFrom (some 0) (some 3) .a 200 300 true) = .paused ∧
      s.answerOutcome (keyFrom (some 0) (some 3) .a 199 300 false) = .early ∧
      (inRound poll .reading id).answerOutcome (keyFrom none none .a 5 300 false) = .early ∧
      s.answerOutcome (keyFrom (some 0) (some 3) .e 200 300 false) = .ignored ∧
      s.answerOutcome (keyFrom none none .d 200 300 false) = .ignored ∧
      s.answerOutcome (keyFrom (some 1) (some 0) .d 200 300 false) = .ignored ∧
      s.answerOutcome (keyFrom (some 0) (some 3) .d 200 300 false) = .changed ∧
      s.answerOutcome (keyFrom (some 191) (some 24) .d 200 300 false) = .recorded ∧
      (s.answers.positionOf (keyFrom none none .a 200 300 false) = some 192 ∧
        u.answers.positionOf (keyFrom none none .a 200 300 false) = none ∧
        u.answers.positionOf { keyFrom none none .a 200 300 false with handset := 9 } = some 192) ∧
      u.answerOutcome (keyFrom none none .a 200 300 false) = .audienceFull ∧
      u.answerOutcome { keyFrom none none .a 200 300 false with handset := 9 } = .ignored) ∧
      (∀ mark ∈ [300, 299], ∀ x ∈ [inRound poll .tallying fun c => { openAt 200 0 c with closeMark := some mark }],
        x.phase = .tallying ∧ x.context.closeMark = some mark ∧
        x.answerOutcome (keyFrom (some 0) (some 3) .a 200 300 false) = if mark = 300 then .recorded else .late) ∧
      (inRound poll .awaitKey (openAt 200 0)).answerOutcome (keyFrom (some 0) (some 3) .a 200 300 false) = .late := by
  decide +kernel

theorem test_meets_TalliesCountTheAnswers :
    awaiting.countNow.counts = [2, 1, 0, 0, 0, 1] ∧ awaiting.countNow.total = 4 ∧
    awaiting.countNow.members[2]? = some (some 3) ∧ awaiting.countNow.members[23]? = some (some 0) ∧
    (awaiting.countNow.keyed awaiting.answers 60 .a).shareAt 3 = some 40 ∧
    (awaiting.countNow.keyed awaiting.answers 60 .a).shareAt 24 = none ∧
    (awaiting.answers.count 6 true awaiting.inPlay).percents = [50, 25, 0, 0, 0, 25] ∧
    (awaiting.answers.count 6 true awaiting.inPlay).members[2]? = some none := by
  decide +kernel

/-! ### The Floor Arbiter -/

/-- A claim from console line `n`. -/
def claimOf (n : Nat) (stamp : Int) (paused : Bool) : Offer := ⟨n, stamp, .console n, none, paused⟩

/-- An open BUZZ round with team 7's claim in the queue, team 5 locked and a reopen mark. -/
def contested : State :=
  (inRound buzz .settling fun c =>
      { openAt 200 5000 c with locks := (List.replicate 24 none).set 4 (some .wrong), claimsAdmitted := 1 }).setArbiter
    ⟨[⟨7, 500, .console 7, 1⟩], some 450⟩

/-- A BUZZ round in which time was called at 990. -/
def called (queue : List QueuedClaim) : State :=
  (inRound buzz .settling fun c =>
    { openAt 200 0 c with timeCalled := true, expiryStamp := some 990 }).setArbiter ⟨queue, none⟩

/-- Each outcome of a claim is met, at the boundary values of the checks. -/
theorem test_meets_ClaimsAreCheckedAndQueued :
    contested.claimOutcome (claimOf 1 500 true) = .paused ∧
    (∀ n ∈ [0, 25], contested.claimOutcome (claimOf n 500 false) = .notInPlay) ∧
    contested.claimOutcome (claimOf 1 199 false) = .falseStartLocked ∧
    contested.claimOutcome (claimOf 5 199 false) = .falseStartAlreadyLocked ∧
    (inRound { buzz with falseStart := .penalise } .reading id).claimOutcome (claimOf 1 500 false) = .falseStartPenalised ∧
    (inRound { buzz with falseStart := .ignore } .reading id).claimOutcome (claimOf 1 500 false) = .falseStartIgnored ∧
    contested.claimOutcome (claimOf 5 200 false) = .locked ∧
    queued.claimOutcome (claimOf 3 500 false) = .holdsFloor ∧
    ((called []).claimOutcome (claimOf 1 990 false) = .late ∧ (called []).claimOutcome (claimOf 1 989 false) = .admitted) ∧
    (contested.claimOutcome (claimOf 1 449 false) = .beforeReopen ∧
      contested.claimOutcome (claimOf 1 450 false) = .admitted) ∧
    (contested.claimOutcome (claimOf 7 499 false) = .replaced ∧
      contested.claimOutcome (claimOf 7 500 false) = .duplicate) ∧
    (contested.claimOutcome (claimOf 5 (-1) false) = .falseStartAlreadyLocked ∧
      contested.claimOutcome (claimOf 1 (-1) true) = .paused) ∧
    contested.arbiter.claimOf 7 = some ⟨7, 500, .console 7, 1⟩ ∧ contested.engine.round.isSome = true := by
  decide +kernel

theorem test_meets_FalseStartsLockTheTeam :
    (∀ n ∈ [1, 24], isTeamNumber n = true) ∧ contested.engine.round.isSome = true ∧ contested.context.locks.length = 24 ∧
    contested.consoles.lockLamps.length = 24 ∧ contested.claimOutcome (claimOf 24 199 false) = .falseStartLocked ∧
    contested.claimOutcome (claimOf 7 199 false) = .falseStartLocked ∧
    contested.arbiter.queue.head?.map QueuedClaim.team = some 7 := by
  decide +kernel

/-- The conditions of the grant at the clock 1000, and at the clock's maximum. -/
theorem test_meets_TheFloorIsGrantedAtTheDeadline :
    (inRound buzz .opened id).engine.state ≠ .settling ∧ contested.engine.clock ≠ 1048575 ∧
    (∀ stamp ∈ [990, 991], ∀ s ∈ [contested.setArbiter ⟨[⟨7, stamp, .console 7, 1⟩], none⟩],
      s.engine.state = .settling ∧ s.context.kind = .buzz ∧ s.context.holder = none ∧ s.engine.round.isSome = true ∧
      s.consoles.floorLamps.length = 24 ∧ s.list.slots.length = 128 ∧ s.engine.clock ≤ 1048575 ∧ isTeamNumber 7 = true ∧
      (stamp + s.setup.settleWindow.toNat ≤ s.engine.clock ↔ stamp = 990) ∧ s.intakeHolds 1000 = false ∧
      (holding s 1000).intakeHolds 1000 = true) ∧
    ((contested.setEngine { contested.engine with clock := 1048575 }).engine.clock = 1048575 ∧
      (contested.setEngine { contested.engine with clock := 1048574 }).engine.clock ≠ 1048575) ∧
    ((contested.setArbiter ⟨[], none⟩).arbiter.queue = [] ∧ contested.context.timeCalled = false) ∧
    ((called []).context.timeCalled = true ∧ (called []).context.expiryStamp = some 990 ∧
      990 + (called []).setup.settleWindow.toNat ≤ (called []).engine.clock) := by
  decide +kernel

theorem test_meets_TimeIsCalled :
    (∀ x ∈ [EngineState.opened, .settling], ∀ left ∈ [0, 1], ∀ s ∈ [inRound buzz x (openAt 200 left)],
      s.context.kind = .buzz ∧ s.engine.round.isSome = true ∧ s.engine.state = x ∧ s.context.timeCalled = false ∧
      (s.context.roundLeft = some 0 ↔ left = 0)) ∧
    (called []).context.timeCalled = true ∧ queued.engine.state ∉ [EngineState.opened, .settling] := by
  decide +kernel

theorem test_meets_RightVerdictsWinTheRound :
    ∀ s ∈ [waiting (.judge 0) (inRound buzz .floor (floorOf3 5000)),
        (waiting (.judge 0) (inRound buzz .floor (floorOf3 5000))).setBoard heldBoards],
      s.waitingCommand = some (.judge 0) ∧ s.engine.state = .floor ∧
      s.context.holder = some ⟨3, 400, .console 3, 1⟩ ∧ s.engine.round.isSome = true ∧ s.list.slots.length = 128 ∧
      s.board.panels.length = 25 ∧ isTeamNumber 3 = true := by
  decide +kernel

/-- What a wrong verdict leaves in the two rebound modes, with and without a queue, and at the wrong limit. -/
theorem test_meets_WrongVerdictsLockAndRebound :
    (∀ left ∈ [0, 1], ∀ s ∈ [waiting (.judge 1) (inRound buzz .floor (floorOf3 left))],
      s.engine.state = .floor ∧ s.engine.remembered = none ∧ s.context.holder = some ⟨3, 400, .console 3, 1⟩ ∧
      isTeamNumber 3 = true ∧ s.engine.round.isSome = true ∧ s.context.locks.length = 24 ∧
      s.consoles.lockLamps.length = 24 ∧ s.consoles.floorLamps.length = 24 ∧ s.waitingCommand = some (.judge 1) ∧
      (s.context.answerLeft = some 0 ↔ left = 0)) ∧
    (∀ r ∈ [((waiting (.judge 1) (inRound buzz .floor (floorOf3 5000))), EngineState.opened, (none : Option Nat)),
        ((waiting (.judge 1) queued), .floor, none),
        ((waiting (.judge 1) (inRound { buzz with rebound := .reopen } .floor (floorOf3 5000))), .opened, some 1000),
        ((waiting (.judge 1) (inRound { buzz with wrongLimit := 1 } .floor (floorOf3 5000))), .idle, none)],
      (after (doing (.judge 1) r.1)).engine.state = r.2.1 ∧ (after (doing (.judge 1) r.1)).arbiter.reopen = r.2.2) := by
  decide +kernel

/-- The reports of a right and of a wrong verdict on team 3, in their order (R47, R106, R111). -/
theorem test_verdictReports :
    ∀ s ∈ [inRound buzz .floor (floorOf3 5000)],
    ((after (doing (.judge 0) (waiting (.judge 0) s))).link.queue.map fun r => (r.event.cls, r.event.code))
      = [(.verdict, 1), (.score, 1), (.round, 7), (.list, 2)] ∧
    ((after (doing (.judge 1) (waiting (.judge 1) s))).link.queue.map fun r => (r.event.cls, r.event.code))
      = [(.verdict, 1), (.score, 1)] ∧
    (after (doing (.judge 0) (waiting (.judge 0) s))).link.queue.drop 2 = [closeReport s .won (some 3), walkReport s] := by
  decide +kernel

/-! ### Console lines, the Handset Intake and the roster -/

/-- Line 24 in a state, at a level whose run has lasted `n` samples, in a live BUZZ round. -/
def lineIn (x : LineState) (level : LineLevel) (n count : Nat) (run : RunStart) : State :=
  (inRound buzz .opened (openAt 200 5000)).setLineAt 24
    { LineRecord.reset with
      state := x, level := level, runLength := n, count := count, fresh := false, newRun := some run }

/-- A run that began in the round. -/
def runInRound : RunStart := ⟨900, true, 1, false⟩

theorem test_meets_LinesFollowTheirRuns :
    (isTeamNumber 1 = true ∧ isTeamNumber 24 = true) ∧
    (∀ q ∈ [(LineState.waitRelease, LineLevel.released, 0), (.ready, .pressed, 0), (.pressed, .released, 0),
        (.stuck, .released, 0), (.pressed, .pressed, 5000), (.waitRelease, .pressed, 5000)],
      ∀ n ∈ [5, 6], ∀ r ∈ [(lineIn q.1 q.2.1 n q.2.2 runInRound).lineAt 24],
        r.state = q.1 ∧ r.level = q.2.1 ∧ r.newRun = some runInRound ∧ (r.filter + 1 ≤ r.runLength ↔ n = 6) ∧
        (5000 ≤ r.count ↔ q.2.2 = 5000)) ∧
    ((lineIn .ready .pressed 6 0 runInRound).live = true ∧ (lineIn .ready .pressed 6 0 runInRound).context.kind = .buzz ∧
      runInRound.live = true ∧ runInRound.serial = (lineIn .ready .pressed 6 0 runInRound).engine.serial) ∧
    State.reset.live = false ∧ State.reset.consoles.blinkLeft ≠ 0 ∧
    { ConsoleUnit.reset with blinkLeft := 0 }.blinkLeft = 0 := by
  decide +kernel

theorem test_meets_LineAndReceiverCommands :
    (∀ i ∈ [Instr.setLine 0 1 1 10, .setLine 25 1 1 10, .setLine 1 2 1 10, .setLine 1 1 2 10, .setLine 1 1 1 3,
        .setLine 1 0 0 0, .setLine 24 1 1 10, .readLine 0, .readLine 1, .readLine 24, .readLine 25, .setReceiver 3 1 255,
        .setReceiver 4 1 0, .setReceiver 0 2 0, .readReceiver 3, .readReceiver 4],
      (waiting i State.reset).waitingCommand = some i) ∧
    (State.reset.lineAt 24).state ≠ .disabled ∧
    ((State.reset.setLineAt 24 { LineRecord.reset with state := .disabled }).lineAt 24).state = .disabled := by
  decide +kernel

theorem test_meets_ReadIntakeReturnsTheState :
    (waiting .readIntake State.reset).waitingCommand = some .readIntake ∧
    (∀ x ∈ [{ brimful.intake with repeats := 65535, outside := 65535, stale := 65535 }],
      x.fifo.length ≤ 32 ∧ x.repeats ≤ 65535 ∧ x.outside ≤ 65535 ∧ x.stale ≤ 65535 ∧ x.fifo ≠ []) ∧
    step (doing .takeComplete brimful) = .next (after (doing .takeComplete brimful)) := by
  refine ⟨by decide +kernel, by decide +kernel, rfl⟩

/-- A pad frame with its good check byte. -/
def padFrame (r : Byte) (h : BitVec 16) (k : Byte) : PadFrame :=
  ⟨r, h, k, 0x83, 20, xorAll (PadFrame.covered ⟨r, h, k, 0x83, 20, 0⟩)⟩

/-- A pad port receiving a frame, `gap` ms after its last byte. -/
def portAt (received : List Byte) (gap : Nat) : Intake := { Intake.reset with port := some received, portGap := gap }

theorem test_meets_PadFramesArriveOrAreDiscarded :
    State.reset.intake.port = none ∧
    (∀ f ∈ [padFrame 0 1 1, padFrame 3 65534 8], State.reset.padFault f = none ∧ f.receiver.toNat ≤ 3) ∧
    State.reset.padFault { padFrame 0 1 1 with check := 0 } = some .check ∧
    State.reset.padFault (padFrame 4 1 1) = some .receiver ∧
    (State.reset.setReceiverAt 3 ⟨false, 0, 0, 0⟩).padFault (padFrame 3 1 1) = some .receiver ∧
    State.reset.padFault (padFrame 0 0 1) = some .handsetId ∧ State.reset.padFault (padFrame 0 65535 1) = some .handsetId ∧
    (∀ k ∈ [(0 : Byte), 9], State.reset.padFault (padFrame 0 1 k) = some .key) ∧
    (PadKey.ofCode (padFrame 0 1 1).key = some (.option .a) ∧ PadKey.ofCode (padFrame 3 65534 8).key = some .hello) ∧
    (brimful.intake.fifo.tail.length < 32 ∧ 32 ≤ brimful.intake.fifo.length ∧ brimful.intake.port = none) ∧
    (portAt [3] 1).port = some [3] ∧ (portAt [3] 1).portGap ≤ 1 ∧ 1 ≤ (portAt [3] 1).portGap ∧
    1 < (portAt [3] 2).portGap ∧ (portAt [] 1).port = some [] ∧ (3 : Byte).toNat ≤ 3 ∧ 3 < (4 : Byte).toNat := by
  decide +kernel

/-- A live BUZZ round in which handset 1234 of team 3 has a key in the FIFO, its last press being `seq` of serial 1. -/
def takes (k : PadKey) (a seq : Nat) (queue : List QueuedClaim) : State :=
  ((inRound buzz .opened (openAt 200 5000)).setIntake
    { Intake.reset with
      fifo := [arrivedAt a k], taking := true
      roster := some ⟨1234, 3, 1, some seq, some 1, true, false⟩ :: List.replicate 191 none }).setArbiter ⟨queue, none⟩

theorem test_meets_TakesHandleTheFrontEntry :
    ((takes .buzz 520 3 []).intake.fifo = [arrivedAt 520 .buzz] ∧ (takes .buzz 520 3 []).intake.taking = true) ∧
    (State.reset.intake.positionOf 1234 = none ∧ guestSet State.reset.intake.guestMap (guestIndex 1234) = false ∧
      guestSet (BitVec.allOnes 64) (guestIndex 1234) = true) ∧
    ((takes .buzz 520 3 []).intake.positionOf 1234 = some 0 ∧
      (takes .buzz 520 3 []).intake.rosterAt 0 = some ⟨1234, 3, 1, some 3, some 1, true, false⟩ ∧
      (arrivedAt 520 .buzz).sequence = 3 ∧ (arrivedAt 520 .buzz).serial = 1) ∧
    (∀ stamp ∈ [500, 501], ∀ s ∈ [takes .buzz 520 3 [⟨3, stamp, .console 3, 1⟩]],
      s.arbiter.claimOf 3 = some ⟨3, stamp, .console 3, 1⟩ ∧
      ((stamp : Int) ≤ 520 - (arrivedAt 520 .buzz).age - (s.receiverAt 0).offset ↔ stamp = 500)) ∧
    ((arrivedAt 520 .buzz).batteryLow = false ∧
      (∀ low ∈ [false, true], ((RosterEntry.mk 1234 3 1 none none true low).updateEvents (arrivedAt 520 .buzz))
        = if low then [.batteryOk 1234 3 1] else [])) ∧
    ((takes .buzz 520 4 []).live = true ∧ (takes .buzz 520 4 []).engine.serial = (arrivedAt 520 .buzz).serial ∧
      (takes .buzz 520 4 []).context.kind = .buzz ∧ isTeamNumber 3 = true) ∧
    (∀ a ∈ [(19 : Nat), 20], ((a : Int) - (arrivedAt a .buzz).age - ((takes .buzz 520 4 []).receiverAt 0).offset < 0 ↔ a = 19)) ∧
    (State.reset.live = false ∧ (inRound poll .opened id).context.kind ≠ .buzz) := by
  decide +kernel

/-- The worked indices of R77, and a guest and an unknown handset. -/
theorem test_meets_GuestIndexOfAnId :
    (∀ p ∈ [((1234 : BitVec 16), 41), (1, 39), (2, 15), (65534, 48)], guestIndex p.1 = p.2) ∧
    State.reset.intake.positionOf (arrivedAt 1 .buzz).handset = none ∧
    guestSet (BitVec.twoPow 64 (63 - 41)) (guestIndex 1234) = true ∧ guestSet 0 (guestIndex 1234) = false := by
  decide +kernel

/-- A state with the roster `x`. -/
def withRoster (x : List (Option RosterEntry)) : State := State.reset.setIntake { Intake.reset with roster := x }

theorem test_meets_RosterAndGuestMapCommands :
    (∀ i ∈ [Instr.enroll 1 24 255, .enroll 65534 0 0, .enroll 0 1 1, .enroll 65535 1 1, .enroll 1 25 1, .withdraw 0,
        .withdraw 1234, .withdraw 65535, .move 1234 24 0, .move 1234 25 0, .move 7 1 0, .clearRoster, .setGuestMap 1,
        .readGuestMap, .readHandset 1234, .readHandset 0, .readRoster 0, .readRoster 191, .readRoster 192],
      (waiting i (withRoster twoHandsets)).waitingCommand = some i) ∧
    ((withRoster twoHandsets).live = false ∧ (inRound buzz .reading id).live = true) ∧
    ((withRoster twoHandsets).intake.positionOf 1234 = some 0 ∧ (withRoster twoHandsets).intake.positionOf 1 = none) ∧
    (twoHandsets[2]? = some none ∧ ∀ q, q < 2 → twoHandsets[q]? ≠ some none) ∧
    (∀ r ∈ List.replicate 192 (some (RosterEntry.enrolled 7 1 1)), r ≠ none) ∧
    (List.replicate 192 (some (RosterEntry.enrolled 7 1 1))).length = 192 ∧
    ((withRoster twoHandsets).intake.rosterAt 1).isSome = true ∧ (withRoster twoHandsets).intake.rosterAt 191 = none := by
  decide +kernel

/-! ### The Standings Unit and the house cup -/

/-- The worked shares of R127, and its bounds at their limits. -/
theorem test_meets_ShareOfATeam :
    (∀ q ∈ [(60, 3, 5, 36), (50, 2, 3, 33), (25, 1, 2, 13), (100, 5, 7, 71), (40, 0, 6, 0), (500, 192, 192, 500),
        (500, 1, 1, 500), (500, 0, 1, 0)],
      1 ≤ q.2.2.1 ∧ q.2.1 ≤ q.2.2.1 ∧ shareOf q.1 q.2.1 q.2.2.1 = q.2.2.2) ∧
    isTeamNumber 3 = true ∧ 0 < awaiting.countNow.membersOf 3 := by
  decide +kernel

theorem test_meets_ScoreChangesFollowTheRequest :
    extremes.teams.length = 24 ∧ isTeamNumber 1 = true ∧ isTeamNumber 24 = true ∧
    (∀ q ∈ [(ScoreRequest.mk 1 .verdict (some .right) (some 1) (.by 1), (9999 : Int), true, 9, 16777215),
        (⟨2, .verdict, some .wrong, none, .by (-1)⟩, -999, true, 0, 16777215),
        (⟨2, .verdict, some .timeout, none, .by 0⟩, -999, false, 0, 16777215),
        (⟨3, .falseStart, none, none, .by (-50)⟩, -50, false, 0, 16777215),
        (⟨1, .share, none, none, .by 0⟩, 9999, false, 9, 16777215),
        (⟨3, .adjust, none, none, .by 9999⟩, 9999, false, 0, 16777215),
        (⟨3, .set, none, none, .target (-999)⟩, -999, false, 0, 16777215)],
      ((extremes.apply q.1).teamAt q.1.team).score = q.2.1 ∧ ((extremes.apply q.1).teamAt q.1.team).clamped = q.2.2.1 ∧
      ((extremes.apply q.1).teamAt q.1.team).streak = q.2.2.2.1 ∧ (extremes.apply q.1).counter = q.2.2.2.2) := by
  decide +kernel

/-- A bonus of 7 tenths left of 8 s, at a streak of 2 before the request, and the ends of the bonus window. -/
theorem test_meets_AwardOfARightVerdict :
    (10000 ≤ 12340 ∧ awardPoints buzz 12340 10000 2 = 162) ∧
    (awardPoints buzz 10000 10000 0 = 150 ∧ awardPoints buzz 17999 10000 0 = 100 ∧ awardPoints buzz 18000 10000 9 = 150) ∧
    (0 < buzz.bonusWindow.toNat * 100 ∧ 0 < buzz.bonusMax.toNat) ∧
    (buzz.basePoints.toNat ≤ 500 ∧ buzz.bonusMax.toNat ≤ 250 ∧ buzz.bonusWindow.toNat ≤ 300) ∧
    awardPoints { buzz with basePoints := 500, bonusMax := 250, bonusWindow := 300 } 10000 10000 5 = 1125 := by
  decide +kernel

theorem test_meets_PositionsAreEachOnce :
    extremes.playingCount = 2 ∧ extremes.position 1 = some 1 ∧ extremes.position 2 = some 2 ∧
    extremes.position 24 = none ∧ extremes.tie = .strict ∧ everyone.position 24 = some 24 ∧
    { everyone with tie := .shared }.tie = .shared ∧ { everyone with tie := .shared }.rank 24 = some 1 := by
  decide +kernel

theorem test_meets_StandingsCommands :
    (∀ i ∈ [Instr.setTeam 1 1 (List.replicate 10 0x1F) 1 6, .setTeam 24 10 (List.replicate 10 0x7E) 0 0,
        .setTeam 0 1 blankName 1 0, .setTeam 25 1 blankName 1 0, .setTeam 1 0 blankName 1 0, .setTeam 1 11 blankName 1 0,
        .setTeam 1 1 blankName 2 0, .setTeam 1 1 blankName 1 7, .adjustScore 24 9999, .adjustScore 1 (-9999),
        .adjustScore 1 10000, .adjustScore 1 (-10000), .adjustScore 0 0, .setScore 1 (-999), .setScore 24 9999,
        .setScore 1 (-1000), .setScore 25 0, .setTieDisplay 0, .setTieDisplay 1, .setTieDisplay 2, .freeze, .unfreeze],
      (waiting i State.reset).waitingCommand = some i) ∧
    ((9999 : BitVec 16).toInt = 9999 ∧ (-9999 : BitVec 16).toInt = -9999 ∧ (-1000 : BitVec 16).toInt < -999) ∧
    (State.reset.standings.frozen = false ∧ { everyone with frozen := true }.frozen = true) ∧
    (inRound buzz .reading id).live = true ∧ State.reset.live = false := by
  decide +kernel

/-- The standings of two houses, frozen: teams 1 and 2 belong to house 1, team 24 to house 6. -/
def frozenGame : Standings :=
  { Standings.reset with
    teams := ⟨true, blankName, 1, 50, 0, 0, 0, 1, false⟩ :: ⟨true, blankName, 1, -10, 0, 0, 0, 2, false⟩ ::
      List.replicate 21 TeamRecord.reset ++ [⟨true, blankName, 6, 20, 0, 0, 0, 3, false⟩]
    counter := 3
    frozen := true }

theorem test_meets_HouseCupCommands :
    (∀ i ∈ [Instr.setHouse 1 1 blankName 1 999999 255, .setHouse 6 10 blankName 0 (-99999) 0,
        .setHouse 0 1 blankName 1 0 0, .setHouse 7 1 blankName 1 0 0, .setHouse 1 1 blankName 2 0 0,
        .setHouse 1 1 blankName 1 1000000 0, .setPlacePoints [100, 0, 0, 0, 0, 0, 0, 0],
        .setPlacePoints [0, 0, 0, 0, 0, 0, 0, 101], .commitGame 0, .commitGame 1, .commitGame 2],
      (waiting i (State.reset.setStandings frozenGame)).waitingCommand = some i) ∧
    (frozenGame.frozen = true ∧ State.reset.live = false ∧ State.reset.board.state = .live ∧ heldBoards.state ≠ .live ∧
      State.reset.standings.frozen = false ∧ (inRound buzz .reading id).live = true ∧ frozenGame.teams.length = 24) ∧
    (∀ q ∈ [((0 : Byte), (40 : Int), (20 : Int)), (1, 16, 8)],
      ∀ s ∈ [after (doing (.commitGame q.1) (waiting (.commitGame q.1) (State.reset.setStandings frozenGame)))],
        (s.standings.houseAt 1).total = q.2.1 ∧ (s.standings.houseAt 6).total = q.2.2 ∧
        (s.standings.houseAt 2).games = 0 ∧ s.standings.frozen = false) := by
  decide +kernel

/-- Houses 1, 3, 4 and 6 shown, 3 and 4 level on 40, house 2 not shown with 90. -/
def cup (tie : TieDisplay) : Standings :=
  { Standings.reset with
    tie := tie
    houses := [(true, 20), (false, 90), (true, 40), (true, 40), (false, 0), (true, -5)].map fun q =>
      ⟨blankName, q.1, q.2, 0⟩ }

/-- The places of the houses, and the live house lines 1, 4, 5 and 8 (R159, R166). -/
theorem test_housePlaces :
    [1, 2, 3, 4, 5, 6].map (cup .strict).place = [some 3, none, some 1, some 2, none, some 4] ∧
    [1, 2, 3, 4, 5, 6].map (cup .shared).place = [some 3, none, some 1, some 1, none, some 4] ∧
    [1, 3, 4, 6].map (housesAhead (cup .shared)) = [2, 0, 1, 3] ∧
    [1, 2, 4, 5, 8].map (liveLine (cup .shared) .houses) =
      [some ⟨1, blankName, 40⟩, some ⟨1, blankName, 40⟩, some ⟨4, blankName, -5⟩, none, none] := by
  decide +kernel

/-- The replies of the reads in the forms of R196, on a paused round with team 24 locked for a TIMEOUT; the PANEL view of
the leaderboard has 244 bytes, and fits in one reply frame. -/
theorem test_readReplies :
    ∀ s ∈ [pausedIn .settling fun c => { openAt 200 5000 c with locks := List.replicate 23 none ++ [some .timeout] }],
      s.holderView = [0xFF, 0xFF, 0xFF, 0xFF, 0xFF, 0xFF, 0xFF, 0xFF, 0xFF] ∧
      floorReply s = [1] ++ List.replicate 9 0xFF ++ [0, 0xFF, 0xFF, 0xFF, 0, 0, 0, 0, 0, 3, 0xFF, 0xFF, 0xFF, 0, 0, 0] ∧
      (carryReadFloor s).data = floorReply s ∧ (carryReadAnswers 0 0 s).data = answersSummary s.answers ∧
      (carryReadAnswers 1 0 s).data = answersEntries s.answers 0 ∧
      (carryReadBoard 0 0 s).data = boardSummaryReply s ∧
      (∀ a ∈ [(0 : Byte), 24], (carryReadBoard 1 a s).data = boardPanelReply s a.toNat) ∧
      (boardPanelReply s 0).length = 244 ∧ (boardPanelReply s 24).length = 13 := by
  decide +kernel

theorem test_meets_ReadsChangeNothing :
    ∀ i ∈ [Instr.readFloor, .readAnswers 0 0, .readAnswers 0 1, .readAnswers 1 255, .readAnswers 2 2, .readAnswers 2 3,
        .readStandings 0 0, .readStandings 1 24, .readStandings 1 25, .readStandings 2 1, .readStandings 3 0, .readHouses 0,
        .readHouses 1, .readHouses 2, .readHouses 3, .readBoard 0 0, .readBoard 0 1, .readBoard 1 24, .readBoard 1 25],
      (waiting i (inRound buzz .paused id)).waitingCommand = some i := by
  decide +kernel

/-! ### The Board Driver and the tick -/

theorem test_meets_BoardsAreHeldRevealedAndReleased :
    (∀ i ∈ [Instr.holdBoards, .revealBoards 0, .revealBoards 1, .revealBoards 10, .revealBoards 11, .releaseBoards,
        .setLeaderboardMode 0, .setLeaderboardMode 1, .setLeaderboardMode 2],
      (waiting i State.reset).waitingCommand = some i ∧
      (waiting i (State.reset.setBoard heldBoards)).waitingCommand = some i) ∧
    (State.reset.board.state = .live ∧ State.reset.board.panels.length = 25 ∧ heldBoards.state = .held ∧
      heldBoards.lineHeld.length = 8 ∧ heldBoards.panels.length = 25) ∧
    (∀ cursor ∈ [1, 2], ∀ b ∈ [{ heldBoards with state := .revealing, cursor := cursor }],
      b.state = .revealing ∧ b.revealLeft = 0 ∧ b.cursor = cursor) ∧
    { heldBoards with state := .revealing, revealLeft := 1 }.revealLeft ≠ 0 := by
  decide +kernel

/-- Line 1 held and lines 2 to 8 live, the snapshot's lines naming a score of 77. -/
def oneLineHeld : Board :=
  { heldBoards with
    lineHeld := true :: List.replicate 7 false
    snapshot := some
      ⟨List.replicate 24 (some 77, some 2), List.replicate 8 (some ⟨1, blankName, 77⟩),
        List.replicate 8 (some ⟨1, blankName, 78⟩)⟩ }

/-- A held line comes from the snapshot and a line whose mark is clear is live, in either mode; a held panel shows the
snapshot; and the countdown follows the engine state, or the remembered one (R34, R166, R167). -/
theorem test_leaderTarget :
    (∀ s ∈ [(State.reset.setStandings everyone).setBoard oneLineHeld],
      s.leaderTarget.lines =
        some ⟨1, blankName, 77⟩ :: (List.range 7).map fun i => liveLine everyone .teams (i + 2)) ∧
    (liveLine everyone .teams 8).isSome = true ∧
    (∀ s ∈ [State.reset.setBoard { oneLineHeld with mode := .houses }],
      s.leaderTarget.lines = some ⟨1, blankName, 78⟩ :: List.replicate 7 none) ∧
    (∀ s ∈ [State.reset.setBoard oneLineHeld], (s.board.panelAt 24).held = true ∧
      s.teamTarget 24 = ⟨some 77, some 2, false⟩) ∧
    (∀ x ∈ [EngineState.opened, .settling, .floor], ∀ f ∈ [fun c : Context => { c with lastSecond := some 9 }],
      (inRound buzz x f).leaderTarget.countdown = some 9 ∧ (pausedIn x f).leaderTarget.countdown = some 9) ∧
    (∀ x ∈ [EngineState.reading, .tallying, .awaitKey], ∀ f ∈ [fun c : Context => { c with lastSecond := some 9 }],
      (inRound (choice .held) x f).leaderTarget.countdown = none) ∧
    (pausedIn .reading id).leaderTarget.countdown = none := by
  decide +kernel

/-- A poll of address `a` on the chain, `w` ms after it began. -/
def polling (a w : Nat) : Board := { Board.reset with check := some ⟨a, 2⟩, chain := .poll a w false }

theorem test_meets_ThePanelChainServesThePanels :
    (State.reset.board.chain = .free ∧ State.reset.refreshChoice = some 0 ∧ State.reset.board.checkWork = false) ∧
    ({ Board.reset with check := some ⟨24, 0⟩, lastKind := some .refresh }.checkWork = true ∧
      { Board.reset with check := some ⟨25, 0⟩ }.checkWork = false) ∧
    (∀ a ∈ [0, 24], { Board.reset with chain := .refresh a (State.reset.target a) false }.chain
        = .refresh a (State.reset.target a) false ∧
      { Board.reset with chain := (Chain.refresh a (State.reset.target a) false).voided }.chain
        = .refresh a (State.reset.target a) true ∧
      { polling a 50 with chain := (polling a 50).chain.voided }.chain = .poll a 50 true ∧
      (polling a 50).chain = .poll a 50 false ∧ (polling a 50).check = some ⟨a, 2⟩ ∧ (polling a 50).panels.length = 25) ∧
    (∀ i ∈ [Instr.panelPollReply ⟨0x5A, 24⟩ 0 24, .panelPollReply ⟨0x5B, 23⟩ 0 23, .panelPollReply ⟨0x5B, 24⟩ 0 25,
        .panelPollReply ⟨0x5B, 24⟩ 2 26], (after (doing i (State.reset.setBoard (polling 24 3)))).board = polling 24 3) ∧
    ((after (doing (.panelPollReply ⟨0x5B, 24⟩ 1 25) (State.reset.setBoard (polling 24 3)))).board.panelAt 24).presence
      = .fault ∧
    ((waiting .checkPanels State.reset).waitingCommand = some .checkPanels ∧ State.reset.board.check = none ∧
      (polling 0 0).check ≠ none) ∧
    (isTeamNumber 24 = true ∧ (State.reset.board.panelAt 24).blinkLeft = 0 ∧
      ((Board.reset.setPanelAt 24 ⟨none, .present, false, 1, true⟩).panelAt 24).blinkLeft ≠ 0) ∧
    (∀ ms ∈ [0, 1], ((State.reset.setBoard (Board.reset.setPanelAt 24 ⟨none, .present, false, ms, true⟩)).liveTeamImage 24)
      = ⟨none, none, ms = 1⟩) := by
  decide +kernel

theorem test_meets_TicksCount :
    State.reset.consoles.records.length = 24 ∧ (State.reset.lineAt 24).enabled = true ∧
    ((State.reset.setLineAt 1 { LineRecord.reset with enabled := false }).lineAt 1).enabled = false ∧
    (LineRecord.reset.fresh = true ∧ { LineRecord.reset with fresh := false }.fresh = false) ∧
    ((linkAt .twoWire (some [2]) 20).receiving.isSome = true ∧ (portAt [3] 1).port.isSome = true ∧
      (polling 24 49).chain = .poll 24 49 false) ∧
    (∀ x ∈ [EngineState.opened, .settling], ∀ ms ∈ [0, 1, 1000],
      (inRound buzz x (openAt 200 ms)).context.roundLeft = some ms ∧
      (inRound buzz x (openAt 200 ms)).context.lastSecond = none ∧
      (inRound buzz x (openAt 200 ms)).context.timeCalled = false) ∧
    (∀ ms ∈ [5000, 5001], (inRound buzz .floor (floorOf3 ms)).context.answerLeft = some ms ∧
      (inRound buzz .floor (floorOf3 ms)).context.holder = some ⟨3, 400, .console 3, 1⟩) := by
  decide +kernel

/-! ### The spec's tables and worked examples -/

/-- Every code that the part receives names a value exactly in its range (R196). -/
theorem test_codesReceived :
    (∀ b, (RoundKind.ofCode b).isSome = !decide (3 < b.toNat)) ∧
    (∀ b, (linkOf b).isSome = !decide (127 < b.toNat ∧ b ≠ 0xFF)) ∧
    (∀ b, (FalseStartRule.ofCode b).isSome = !decide (2 < b.toNat)) ∧
    (∀ b, (ReboundMode.ofCode b).isSome = !decide (1 < b.toNat)) ∧
    (∀ b, (boolOfCode b).isSome = !decide (1 < b.toNat)) ∧
    (∀ b, (RoundKey.ofCode b).isSome = !decide (6 < b.toNat)) ∧
    (∀ b, (AnswerLock.ofCode b).isSome = !decide (1 < b.toNat)) ∧
    (∀ b, (Polarity.ofCode b).isSome = !decide (1 < b.toNat)) ∧
    (∀ b, (TieDisplay.ofCode b).isSome = !decide (1 < b.toNat)) ∧
    (∀ b, (CommitMethod.ofCode b).isSome = !decide (1 < b.toNat)) ∧
    (∀ b, (BoardMode.ofCode b).isSome = !decide (1 < b.toNat)) ∧
    (∀ b, (PadKey.ofCode b).isSome = decide (1 ≤ b.toNat ∧ b.toNat ≤ 8)) ∧
    (∀ b, (filterOf b).isSome = decide (b ∈ [0, 2, 5, 10])) := by
  decide +kernel

/-- The tie ranks with tie_start at 7 (R97). -/
theorem test_tieRanks :
    [7, 8, 12, 24, 1, 3, 6].map (tieRank 7) = [0, 1, 5, 17, 18, 20, 23] := by
  decide

/-- The seconds shown for a remaining time (R33). -/
theorem test_secondsShown : [18160, 18000, 1000, 1, 0].map secondsShown = [19, 18, 1, 1, 0] := by
  decide

/-- Percentages are rounded one by one, a half up (R129). -/
theorem test_percents :
    percentOf 7 21 = 33 ∧ percentOf 1 8 = 13 ∧ percentOf 0 5 = 0 ∧ percentOf 5 5 = 100 ∧ percentOf 0 0 = 0 := by
  decide

/-- A step of the queue, and the empty queue at which the block idles. -/
theorem test_steps :
    (after (doing (.modeByte 0x93) State.reset)).link.mode = .twoWire ∧
    (after (doing (.modeByte 0x93) State.reset)).pending = [] ∧ step State.reset = .next State.reset := by
  refine ⟨by decide, by decide, rfl⟩

end Sys2Proof.Tests
end

section
/-! The Round List: what a hard reset leaves in each unit, and what GO does at a position parked AT SLOT (R13, R19). -/

namespace Sys2Proof.Machine

/-! ### The hard reset -/

theorem exec_hardReset (s : State) : exec .hardReset s = .next s.hardReset := rfl

/-- Every unit of the part has its reset value; only the model's own counter and queue stay. -/
@[simp] theorem State.hardReset_units (s : State) :
    s.hardReset.list = RoundList.reset ∧ s.hardReset.engine = Engine.reset ∧ s.hardReset.arbiter = Arbiter.reset ∧
    s.hardReset.consoles = ConsoleUnit.reset ∧ s.hardReset.intake = Intake.reset ∧
    s.hardReset.answers = Collector.reset ∧ s.hardReset.standings = Standings.reset ∧
    s.hardReset.board = Board.reset ∧ s.hardReset.link = Link.reset ∧ s.hardReset.free = s.free ∧
    s.hardReset.pending = s.pending := ⟨rfl, rfl, rfl, rfl, rfl, rfl, rfl, rfl, rfl, rfl, rfl⟩

theorem RoundList.reset_slots_length : RoundList.reset.slots.length = 128 := List.length_replicate

@[simp] theorem State.hardReset_slotAt (s : State) (k : Fin 128) : s.hardReset.slotAt k = Slot.blank :=
  List.getD_replicate _ k.isLt

/-! ### Parking, and GO at a parked position -/

@[simp] theorem State.parkAt_list (s : State) (k : Fin 128) (reason : ParkReason) (basis : ParkBasis) :
    (s.parkAt k reason basis).list = ⟨s.list.slots, k, some (reason, basis)⟩ := rfl

@[simp] theorem State.parkAt_engine (s : State) (k : Fin 128) (reason : ParkReason) (basis : ParkBasis) :
    (s.parkAt k reason basis).engine = { s.engine with state := .idle } := rfl

/-- An EDIT-owned slot that is examined parks the engine at it (R12, R13). -/
theorem State.examine_of_edit {s : State} {k : Fin 128} (h : (s.slotAt k).owner = .edit) :
    s.examine k = s.parkAt k .notHandedOver .atSlot := by
  simp [State.examine, h]

theorem State.reexamine_of_atSlot {s : State} {reason : ParkReason} (h : s.list.park = some (reason, .atSlot)) :
    s.reexamine = s.examine s.list.pointer := by
  simp [State.reexamine, h]

theorem carryGo_of_idle {s : State} (h : s.engine.state = .idle) :
    carryGo s = s.reexamine.done s.reexamine.listPosition := if_pos h

/-- GO at a position parked AT SLOT, whose slot is EDIT-owned, parks the engine there again (R13). -/
theorem carryGo_of_atSlot_of_edit {s : State} {reason : ParkReason} (hidle : s.engine.state = .idle)
    (hpark : s.list.park = some (reason, .atSlot)) (howner : (s.slotAt s.list.pointer).owner = .edit) :
    carryGo s =
      (s.parkAt s.list.pointer .notHandedOver .atSlot).done
        (s.parkAt s.list.pointer .notHandedOver .atSlot).listPosition := by
  rw [carryGo_of_idle hidle, State.reexamine_of_atSlot hpark, State.examine_of_edit howner]

/-! ### HAND OVER's checks -/

/-- A descriptor of kind NONE fails HAND OVER at field 1 (R9). -/
theorem Descriptor.firstFailing_checks_of_none {d : Descriptor} (h : d.kind = .none) :
    firstFailing d.checks = some 1 := by
  simp [Descriptor.checks, h, firstFailing]

/-- Settles O14: every unit has its reset value, so GO finds an IDLE engine parked AT SLOT at the EDIT-owned slot 0. -/
theorem hardResetParksTheList : Obligations.HardResetParksTheList := by
  intro s
  have hgo := carryGo_of_atSlot_of_edit (s := s.hardReset) (reason := .notHandedOver)
    (by simp [Engine.reset]) (by simp [RoundList.reset]) (by simp [Slot.blank])
  refine ⟨s.hardReset, exec_hardReset s, ?slots, s.hardReset_slotAt, ?idle, ?pointer, ?park, ?code, ?goIdle, ?goPointer,
    ?field⟩
  case slots => simp [RoundList.reset_slots_length]
  case idle => simp [Engine.reset]
  case pointer => simp [RoundList.reset]
  case park => simp [RoundList.reset]
  case code => rw [hgo]; rfl
  case goIdle => simp [hgo]
  case goPointer => simp [hgo, RoundList.reset]
  case field => exact Descriptor.firstFailing_checks_of_none (by simp [Slot.blank, Descriptor.blank])

end Sys2Proof.Machine
end

section
/-! The Round Engine: what a tick does to it while no round is live, what it hands to the leaderboard then, and the
engine that START ROUND makes (R25, R29, R34, R49). -/

namespace Sys2Proof.Machine

/-! ### The engine with no round live -/

@[simp] theorem State.ticked_engine (s : State) (levels : BitVec 24) : (s.ticked levels).engine = s.engineTicked := rfl

theorem EngineState.eq_idle_or_cued_of_not_live {x : EngineState} (h : x.live = false) : x = .idle ∨ x = .cued := by
  cases x with
  | idle => exact .inl rfl
  | cued => exact .inr rfl
  | reading | opened | settling | floor | tallying | awaitKey | paused => cases h

theorem EngineState.clockRuns_of_not_live {x : EngineState} (h : x.live = false) : x.clockRuns = false := by
  simp [EngineState.clockRuns, h]

/-- No timer of the context counts outside a live round (R31, R32, R35). -/
theorem State.timersTicked_of_not_live {s : State} (h : s.live = false) : s.timersTicked = id := by
  funext c
  rcases EngineState.eq_idle_or_cued_of_not_live h with hs | hs <;> simp [State.timersTicked, hs]

/-- With no round live the round clock is stopped and no timer counts, so a tick keeps the whole engine (R25). -/
theorem State.engineTicked_of_not_live {s : State} (h : s.live = false) : s.engineTicked = s.engine := by
  simp [State.engineTicked, State.timersTicked_of_not_live h, EngineState.clockRuns_of_not_live h]

theorem State.pausedMark_of_not_live {s : State} (h : s.live = false) : s.pausedMark = false := by
  rcases EngineState.eq_idle_or_cued_of_not_live h with hs | hs <;> simp [State.pausedMark, hs]

theorem State.slotShown_of_idle {s : State} (h : s.engine.state = .idle) : s.slotShown = none := if_pos h

theorem State.countdown_of_not_live {s : State} (h : s.live = false) : s.countdown = none := by
  rcases EngineState.eq_idle_or_cued_of_not_live h with hs | hs <;> simp [State.countdown, State.phase, hs]

/-! ### Starting a round -/

/-- The engine after START ROUND: READING, the clock at 0 and the next serial, in a fresh context (R24, R29). -/
theorem State.start_engine (s : State) :
    s.start.engine =
      ⟨.reading, none, 0, s.engine.serial + 1, s.engine.tieStart,
        some (Context.fresh s.list.pointer (s.slotAt s.list.pointer).setup.kind (s.engine.serial + 1)
          (secondsMs (s.slotAt s.list.pointer).setup.readingLimit))⟩ := rfl

/-- Settles O15: the reset engine is IDLE, so no round is live; a tick and the leaderboard see no round, and the serial
goes from 0 to 1 at the first start. -/
theorem hardResetIdlesTheEngine : Obligations.HardResetIdlesTheEngine := by
  intro s
  have hidle : s.hardReset.engine.state = .idle := by simp [Engine.reset]
  have hlive : s.hardReset.live = false := by rw [State.live, hidle]; rfl
  refine ⟨s.hardReset, exec_hardReset s, hidle, ?pointer, ?park, ?serial, ?clock, ?tieStart,
    State.pausedMark_of_not_live hlive, ?round, ?tick, State.slotShown_of_idle hidle, State.countdown_of_not_live hlive,
    ?first⟩
  case pointer => simp [RoundList.reset]
  case park => simp [RoundList.reset]
  case serial => simp [Engine.reset]
  case clock => simp [Engine.reset]
  case tieStart => simp [Engine.reset]
  case round => simp [Engine.reset]
  case tick => intro levels; rw [State.ticked_engine, State.engineTicked_of_not_live hlive]
  case first => simp [State.start_engine, Engine.reset]

end Sys2Proof.Machine
end

section
/-! The Handset Intake, row by row: which rows of the table reach it at all, and that every other row leaves it as it is.
The operations' own frame lemmas are in `Laws/`; here they are carried up to the desk commands and to `exec`. -/

namespace Sys2Proof.Machine

/-! ### The desk commands that leave the intake alone -/

@[simp] theorem carryIdentify_intake (s : State) : (carryIdentify s).state.intake = s.intake := rfl

@[simp] theorem carrySetRate_intake (rate : Byte) (s : State) :
    (carrySetRate rate s).state.intake = s.intake := by
  unfold carrySetRate; split_ifs <;> simp

@[simp] theorem carryStatusGet_intake (s : State) : (carryStatusGet s).state.intake = s.intake := rfl

@[simp] theorem carrySetNoticeMask_intake (classes : BitVec 16) (s : State) :
    (carrySetNoticeMask classes s).state.intake = s.intake := by
  unfold carrySetNoticeMask; split_ifs <;> simp

@[simp] theorem carryHoldReports_intake (time : BitVec 16) (s : State) :
    (carryHoldReports time s).state.intake = s.intake := by
  unfold carryHoldReports; split_ifs <;> simp

@[simp] theorem carryFetchReports_intake (count : Byte) (s : State) :
    (carryFetchReports count s).state.intake = s.intake := by
  unfold carryFetchReports; split_ifs <;> simp

@[simp] theorem carryShowReset_intake (s : State) : (carryShowReset s).state.intake = s.intake := rfl

@[simp] theorem carryWriteRound_intake (slot : Byte) (d : DescriptorPayload) (s : State) :
    (carryWriteRound slot d s).state.intake = s.intake := by
  unfold carryWriteRound; repeat' split
  all_goals simp

@[simp] theorem carryReadRound_intake (slot : Byte) (s : State) :
    (carryReadRound slot s).state.intake = s.intake := by
  unfold carryReadRound; split <;> simp

@[simp] theorem carryHandOver_intake (slot : Byte) (s : State) :
    (carryHandOver slot s).state.intake = s.intake := by
  unfold carryHandOver; repeat' split
  all_goals simp

@[simp] theorem carryTakeBack_intake (slot : Byte) (s : State) :
    (carryTakeBack slot s).state.intake = s.intake := by
  unfold carryTakeBack; repeat' split
  all_goals simp

@[simp] theorem carrySetPointer_intake (slot : Byte) (s : State) :
    (carrySetPointer slot s).state.intake = s.intake := by
  unfold carrySetPointer; repeat' split
  all_goals simp

@[simp] theorem carryGo_intake (s : State) : (carryGo s).state.intake = s.intake := by
  unfold carryGo; split_ifs <;> simp

@[simp] theorem carryStartRound_intake (s : State) : (carryStartRound s).state.intake = s.intake := by
  unfold carryStartRound; split_ifs <;> simp

@[simp] theorem carryOpenRound_intake (s : State) : (carryOpenRound s).state.intake = s.intake := by
  unfold carryOpenRound; split_ifs <;> simp

@[simp] theorem carryCloseRound_intake (s : State) : (carryCloseRound s).state.intake = s.intake := by
  unfold carryCloseRound; split_ifs <;> simp

@[simp] theorem carryJudge_intake (v : Byte) (s : State) : (carryJudge v s).state.intake = s.intake := by
  unfold carryJudge; repeat' split
  all_goals simp

@[simp] theorem carryRevealKey_intake (option : Byte) (s : State) :
    (carryRevealKey option s).state.intake = s.intake := by
  unfold carryRevealKey; repeat' split
  all_goals simp

@[simp] theorem carryPause_intake (s : State) : (carryPause s).state.intake = s.intake := by
  unfold carryPause; split_ifs <;> simp

@[simp] theorem carryResume_intake (s : State) : (carryResume s).state.intake = s.intake := by
  unfold carryResume; split_ifs <;> simp

@[simp] theorem carryAbandon_intake (s : State) : (carryAbandon s).state.intake = s.intake := by
  unfold carryAbandon; split_ifs <;> simp

@[simp] theorem carrySetLine_intake (line enabled polarity filter : Byte) (s : State) :
    (carrySetLine line enabled polarity filter s).state.intake = s.intake := by
  unfold carrySetLine; split <;> simp

@[simp] theorem carryReadLine_intake (line : Byte) (s : State) :
    (carryReadLine line s).state.intake = s.intake := by
  unfold carryReadLine; split <;> simp

@[simp] theorem carryReadReceiver_intake (receiver : Byte) (s : State) :
    (carryReadReceiver receiver s).state.intake = s.intake := by
  unfold carryReadReceiver; split <;> simp

@[simp] theorem carryReadIntake_intake (s : State) : (carryReadIntake s).state.intake = s.intake := rfl

@[simp] theorem carryReadGuestMap_intake (s : State) : (carryReadGuestMap s).state.intake = s.intake := rfl

@[simp] theorem carryReadHandset_intake (h : BitVec 16) (s : State) :
    (carryReadHandset h s).state.intake = s.intake := by
  unfold carryReadHandset; split <;> simp

@[simp] theorem carryReadRoster_intake (position : Byte) (s : State) :
    (carryReadRoster position s).state.intake = s.intake := by
  unfold carryReadRoster; repeat' split
  all_goals simp

@[simp] theorem carryReadAnswers_intake (view argument : Byte) (s : State) :
    (carryReadAnswers view argument s).state.intake = s.intake := by
  unfold carryReadAnswers; repeat' split
  all_goals simp

@[simp] theorem carryReadFloor_intake (s : State) : (carryReadFloor s).state.intake = s.intake := rfl

@[simp] theorem carrySetTeam_intake (team nameLength : Byte) (name : List Byte) (playing house : Byte) (s : State) :
    (carrySetTeam team nameLength name playing house s).state.intake = s.intake := by
  unfold carrySetTeam State.storeTeam; repeat' split
  all_goals simp

@[simp] theorem State.correct_intake (s : State) (q : ScoreRequest) : (s.correct q).state.intake = s.intake := rfl

@[simp] theorem carryAdjustScore_intake (team : Byte) (delta : BitVec 16) (s : State) :
    (carryAdjustScore team delta s).state.intake = s.intake := by
  unfold carryAdjustScore; repeat' split
  all_goals simp

@[simp] theorem carrySetScore_intake (team : Byte) (target : BitVec 16) (s : State) :
    (carrySetScore team target s).state.intake = s.intake := by
  unfold carrySetScore; repeat' split
  all_goals simp

@[simp] theorem carrySetTieDisplay_intake (option : Byte) (s : State) :
    (carrySetTieDisplay option s).state.intake = s.intake := by
  unfold carrySetTieDisplay; split <;> simp

@[simp] theorem carryFreeze_intake (s : State) : (carryFreeze s).state.intake = s.intake := by
  unfold carryFreeze; split_ifs <;> simp

@[simp] theorem carryUnfreeze_intake (s : State) : (carryUnfreeze s).state.intake = s.intake := by
  unfold carryUnfreeze; split_ifs <;> simp

@[simp] theorem carryReadStandings_intake (view argument : Byte) (s : State) :
    (carryReadStandings view argument s).state.intake = s.intake := by
  unfold carryReadStandings; repeat' split
  all_goals simp

@[simp] theorem carrySetHouse_intake (house nameLength : Byte) (name : List Byte) (shown : Byte) (total : BitVec 24)
    (games : Byte) (s : State) :
    (carrySetHouse house nameLength name shown total games s).state.intake = s.intake := by
  unfold carrySetHouse State.storeHouse; repeat' split
  all_goals simp

@[simp] theorem carrySetPlacePoints_intake (points : List Byte) (s : State) :
    (carrySetPlacePoints points s).state.intake = s.intake := by
  unfold carrySetPlacePoints; split_ifs <;> simp

@[simp] theorem carryCommitGame_intake (method : Byte) (s : State) :
    (carryCommitGame method s).state.intake = s.intake := by
  unfold carryCommitGame State.commit; repeat' split
  all_goals simp

@[simp] theorem carryReadHouses_intake (view : Byte) (s : State) :
    (carryReadHouses view s).state.intake = s.intake := by
  unfold carryReadHouses; split_ifs <;> simp

@[simp] theorem carryHoldBoards_intake (s : State) : (carryHoldBoards s).state.intake = s.intake := by
  unfold carryHoldBoards; split_ifs <;> simp

@[simp] theorem carryRevealBoards_intake (interval : Byte) (s : State) :
    (carryRevealBoards interval s).state.intake = s.intake := by
  unfold carryRevealBoards; split_ifs <;> simp

@[simp] theorem carryReleaseBoards_intake (s : State) : (carryReleaseBoards s).state.intake = s.intake := by
  unfold carryReleaseBoards; split_ifs <;> simp

@[simp] theorem carryCheckPanels_intake (s : State) : (carryCheckPanels s).state.intake = s.intake := by
  unfold carryCheckPanels; split_ifs <;> simp

@[simp] theorem carrySetLeaderboardMode_intake (mode : Byte) (s : State) :
    (carrySetLeaderboardMode mode s).state.intake = s.intake := by
  unfold carrySetLeaderboardMode; split <;> simp

@[simp] theorem carryReadBoard_intake (view argument : Byte) (s : State) :
    (carryReadBoard view argument s).state.intake = s.intake := by
  unfold carryReadBoard; split_ifs <;> simp

/-! ### The rows that reach the intake -/

/-- The rows that can change the Handset Intake: the resets, the tick of its gap measure, the pad port's rows, the take,
and the commands that set receivers, the roster and the guest map. -/
def reachesIntake : Instr → Bool
  | .hardReset | .showResetExecute | .padFrameArrival _ | .padRunt | .takeComplete | .setReceiver _ _ _ | .enroll _ _ _
  | .withdraw _ | .move _ _ _ | .clearRoster | .setGuestMap _ | .tick _ | .padByteReceived _ => true
  | _ => false

/-- What a command's work makes of the intake, its whole step makes of it: the frame's arrival and the reply are the
link's. -/
theorem desk_intake_of {P : Intake → Prop} {i : Instr} {carry : State → Carried} {s : State} (hs : P s.intake)
    (hc : ∀ u : State, P u.intake → P (carry u).state.intake) : ∃ t, desk i carry s = .next t ∧ P t.intake := by
  refine ⟨_, desk_next i carry s, ?_⟩
  have hb : P (s.bring i).intake := by simpa using hs
  split
  · simpa using hc _ hb
  · exact hb

theorem desk_intake {i : Instr} {carry : State → Carried} {s : State}
    (hc : ∀ u : State, (carry u).state.intake = u.intake) : ∃ t, desk i carry s = .next t ∧ t.intake = s.intake :=
  desk_intake_of (P := (· = s.intake)) rfl fun u hu => (hc u).trans hu

/-- A row that does not reach the intake answers a next state with the same intake. -/
theorem exec_intake_of_not_reaches (i : Instr) (s : State) (hi : reachesIntake i = false) :
    ∃ t, exec i s = .next t ∧ t.intake = s.intake := by
  cases i with
  | hardReset | showResetExecute | padFrameArrival | padRunt | takeComplete | setReceiver | enroll | withdraw | move
  | clearRoster | setGuestMap | tick | padByteReceived => cases hi
  | modeByte b | linkByteReceived b | commandFrameComplete f => exact ⟨_, rfl, by simp⟩
  | linkFrameAbandoned n => exact ⟨_, rfl, by split <;> simp⟩
  | identify => exact desk_intake carryIdentify_intake
  | setRate r => exact desk_intake (carrySetRate_intake r)
  | statusGet => exact desk_intake carryStatusGet_intake
  | setNoticeMask c => exact desk_intake (carrySetNoticeMask_intake c)
  | holdReports t => exact desk_intake (carryHoldReports_intake t)
  | fetchReports n => exact desk_intake (carryFetchReports_intake n)
  | showReset => exact desk_intake carryShowReset_intake
  | writeRound k d => exact desk_intake (carryWriteRound_intake k d)
  | readRound k => exact desk_intake (carryReadRound_intake k)
  | handOver k => exact desk_intake (carryHandOver_intake k)
  | takeBack k => exact desk_intake (carryTakeBack_intake k)
  | setPointer k => exact desk_intake (carrySetPointer_intake k)
  | go => exact desk_intake carryGo_intake
  | startRound => exact desk_intake carryStartRound_intake
  | openRound => exact desk_intake carryOpenRound_intake
  | closeRound => exact desk_intake carryCloseRound_intake
  | judge v => exact desk_intake (carryJudge_intake v)
  | revealKey o => exact desk_intake (carryRevealKey_intake o)
  | pause => exact desk_intake carryPause_intake
  | resume => exact desk_intake carryResume_intake
  | abandon => exact desk_intake carryAbandon_intake
  | setLine n e p f => exact desk_intake (carrySetLine_intake n e p f)
  | readLine n => exact desk_intake (carryReadLine_intake n)
  | readReceiver r => exact desk_intake (carryReadReceiver_intake r)
  | readIntake => exact desk_intake carryReadIntake_intake
  | readGuestMap => exact desk_intake carryReadGuestMap_intake
  | readHandset h => exact desk_intake (carryReadHandset_intake h)
  | readRoster p => exact desk_intake (carryReadRoster_intake p)
  | readAnswers v a => exact desk_intake (carryReadAnswers_intake v a)
  | readFloor => exact desk_intake carryReadFloor_intake
  | setTeam t l n p h => exact desk_intake (carrySetTeam_intake t l n p h)
  | adjustScore t d => exact desk_intake (carryAdjustScore_intake t d)
  | setScore t x => exact desk_intake (carrySetScore_intake t x)
  | setTieDisplay o => exact desk_intake (carrySetTieDisplay_intake o)
  | freeze => exact desk_intake carryFreeze_intake
  | unfreeze => exact desk_intake carryUnfreeze_intake
  | readStandings v a => exact desk_intake (carryReadStandings_intake v a)
  | setHouse h l n x t g => exact desk_intake (carrySetHouse_intake h l n x t g)
  | setPlacePoints p => exact desk_intake (carrySetPlacePoints_intake p)
  | commitGame m => exact desk_intake (carryCommitGame_intake m)
  | readHouses v => exact desk_intake (carryReadHouses_intake v)
  | holdBoards => exact desk_intake carryHoldBoards_intake
  | revealBoards n => exact desk_intake (carryRevealBoards_intake n)
  | releaseBoards => exact desk_intake carryReleaseBoards_intake
  | checkPanels => exact desk_intake carryCheckPanels_intake
  | setLeaderboardMode m => exact desk_intake (carrySetLeaderboardMode_intake m)
  | readBoard v a => exact desk_intake (carryReadBoard_intake v a)
  | readingTimerExpiry | roundTimerExpiry | roundClockHold | lineReady n | linePressAccepted n | lineReleaseAccepted n
  | stuck n | cleared n | lampBlinkTimerExpiry | revealStep | winnerBlinkEnd n | reportHoldExpiry =>
    exact ⟨_, rfl, by split <;> simp⟩
  | linkFrameGap | unknownKind f | roundTimerSecond | answerTimerBlink | answerTimerExpiry | lineRunStart n
  | replySendBegin | replySent | reportSendBegin | reportSent =>
    refine ⟨_, rfl, ?_⟩
    repeat' split
    all_goals simp
  | settleDeadlineReached => exact ⟨_, rfl, s.testGrant_frame.1⟩
  | refreshSendBegin | refreshSendComplete | pollBegin => exact ⟨_, rfl, by simp⟩
  | panelPollReply a b c =>
    simp only [exec, execPanelPollReply]
    split <;> refine ⟨_, rfl, ?_⟩
    · split <;> simp
    all_goals rfl
  | panelPollTimeout =>
    simp only [exec, execPanelPollTimeout]
    split <;> refine ⟨_, rfl, ?_⟩
    · split <;> simp
    all_goals rfl

end Sys2Proof.Machine
end

section
/-! The Handset Intake's bounds: the FIFO holds at most 32 entries and the drop counts are held at 65,535 (R72, R74), which
every step keeps; and what READ INTAKE answers. -/

namespace Sys2Proof.Machine

/-- The FIFO is within its limit, and so are the counts of repeats, keys outside the round and stale keys (R72, R74). -/
def Intake.Bounded (x : Intake) : Prop :=
  x.fifo.length ≤ fifoLimit ∧ x.repeats ≤ 65535 ∧ x.outside ≤ 65535 ∧ x.stale ≤ 65535

theorem bump_le (top n : Nat) : bump top n ≤ top := Nat.min_le_left _ _

theorem Intake.reset_bounded : Intake.reset.Bounded := by simp [Intake.Bounded, Intake.reset]

theorem Intake.showReset_bounded (x : Intake) : x.showReset.Bounded := by simp [Intake.Bounded, Intake.showReset]

/-! ### Each operation of the unit -/

/-- Receivers, the port and the roster are not among what is bounded. -/
@[simp] theorem Intake.bounded_setRosterAt (x : Intake) (p : Nat) (r : Option RosterEntry) :
    (x.setRosterAt p r).Bounded ↔ x.Bounded := Iff.rfl

@[simp] theorem State.setReceiverAt_bounded (s : State) (r : Nat) (x : Receiver) :
    (s.setReceiverAt r x).intake.Bounded ↔ s.intake.Bounded := Iff.rfl

@[simp] theorem State.countAccepted_bounded (s : State) (r : Nat) :
    (s.countAccepted r).intake.Bounded ↔ s.intake.Bounded := Iff.rfl

@[simp] theorem State.countRefused_bounded (s : State) (r : Nat) :
    (s.countRefused r).intake.Bounded ↔ s.intake.Bounded := by
  unfold State.countRefused; split_ifs <;> simp

@[simp] theorem State.badFrame_bounded (s : State) (reason : BadFrameReason) (r : Option Byte) :
    (s.badFrame reason r).intake.Bounded ↔ s.intake.Bounded := by
  unfold State.badFrame; split <;> simp

@[simp] theorem State.padWaits_bounded (s : State) : s.padWaits.intake.Bounded ↔ s.intake.Bounded := Iff.rfl

@[simp] theorem State.runt_bounded (s : State) (received : List Byte) :
    (s.runt received).intake.Bounded ↔ s.intake.Bounded := by simp [State.runt]

@[simp] theorem State.padByteOutside_bounded (s : State) (b : Byte) :
    (s.padByteOutside b).intake.Bounded ↔ s.intake.Bounded := by
  unfold State.padByteOutside; split_ifs <;> exact Iff.rfl

@[simp] theorem State.overrunDrop_bounded (s : State) (r : Nat) :
    (s.overrunDrop r).intake.Bounded ↔ s.intake.Bounded := by
  unfold State.overrunDrop
  split_ifs <;> exact s.countRefused_bounded r

/-- An arrival is put into the FIFO only while there is room (R72). -/
theorem State.arrive_bounded {s : State} (f : PadFrame) (h : s.intake.Bounded) : (s.arrive f).intake.Bounded := by
  unfold State.arrive
  split_ifs with room
  · obtain ⟨_, hcounts⟩ := h
    exact ⟨by simpa [State.countAccepted, State.setReceiverAt] using room, hcounts⟩
  · exact (s.overrunDrop_bounded _).mpr h

theorem State.padFrame_bounded {s : State} (f : PadFrame) (h : s.intake.Bounded) : (s.padFrame f).intake.Bounded := by
  unfold State.padFrame
  split
  · exact (s.badFrame_bounded _ _).mpr h
  · exact State.arrive_bounded f h

theorem State.padByte_bounded {s : State} (b : Byte) (h : s.intake.Bounded) : (s.padByte b).intake.Bounded := by
  unfold State.padByte
  split
  · simpa using h
  next received _ =>
    split_ifs
    · simpa using h
    · unfold State.padByteInside
      split
      · exact State.padFrame_bounded _ h
      · exact h

theorem State.padBytes_bounded {s : State} (bytes : List Byte) (h : s.intake.Bounded) :
    (bytes.foldl State.padByte s).intake.Bounded := by
  induction bytes generalizing s with
  | nil => exact h
  | cons b bytes ih => exact ih (State.padByte_bounded b h)

@[simp] theorem State.updateRoster_bounded (s : State) (e : FifoEntry) (p : Nat) (r : RosterEntry) :
    (s.updateRoster e p r).intake.Bounded ↔ s.intake.Bounded := by simp [State.updateRoster]

/-- A key that the round checks drop counts once in a count that is held; any other leaves the intake (R81, R82). -/
theorem State.checkRound_bounded {s : State} (e : FifoEntry) (p t : Option Nat) (h : s.intake.Bounded) :
    (s.checkRound e p t).intake.Bounded := by
  obtain ⟨hfifo, hrepeats, houtside, hstale⟩ := h
  unfold State.checkRound
  split_ifs
  · exact ⟨hfifo, hrepeats, bump_le _ _, hstale⟩
  · split
    · split_ifs
      · exact ⟨hfifo, hrepeats, houtside, bump_le _ _⟩
      · rw [(s.dispatch_frame e p t _).1]; exact ⟨hfifo, hrepeats, houtside, hstale⟩
    · exact ⟨hfifo, hrepeats, houtside, hstale⟩

theorem State.handleKey_bounded {s : State} (e : FifoEntry) (p t : Option Nat) (h : s.intake.Bounded) :
    (s.handleKey e p t).intake.Bounded := by
  unfold State.handleKey
  split_ifs
  · exact h
  · exact State.checkRound_bounded e p t h

theorem State.handleRoster_bounded {s : State} (e : FifoEntry) (p : Nat) (r : RosterEntry) (h : s.intake.Bounded) :
    (s.handleRoster e p r).intake.Bounded := by
  unfold State.handleRoster
  split_ifs
  · obtain ⟨hfifo, _, hcounts⟩ := h
    exact ⟨hfifo, bump_le _ _, hcounts⟩
  · exact State.handleKey_bounded e _ _ ((s.updateRoster_bounded e p r).mpr h)

theorem State.handle_bounded {s : State} (e : FifoEntry) (h : s.intake.Bounded) : (s.handle e).intake.Bounded := by
  unfold State.handle
  split
  · exact State.handleRoster_bounded e _ _ h
  · split_ifs
    · exact State.handleKey_bounded e none none h
    · simpa using h

theorem Intake.pop_bounded {x : Intake} (h : x.Bounded) : x.pop.Bounded := by
  obtain ⟨hfifo, hcounts⟩ := h
  refine ⟨?_, hcounts⟩
  simp only [Intake.pop, List.length_tail]
  omega

theorem State.completeTake_bounded {s : State} (e : FifoEntry) (h : s.intake.Bounded) :
    (s.completeTake e).intake.Bounded := by
  simpa [State.completeTake] using Intake.pop_bounded (State.handle_bounded e h)

theorem Intake.ticked_bounded {x : Intake} (h : x.Bounded) : x.ticked.Bounded := by
  unfold Intake.ticked; split_ifs <;> exact h

theorem State.showReset_intake (s : State) : s.showReset.intake = s.intake.showReset := by
  have h : s.abandonForReset.intake = s.intake := by simp
  exact congrArg Intake.showReset h

/-! ### The commands that set receivers, the roster and the guest map -/

theorem carrySetReceiver_bounded (receiver enabled offset : Byte) (s : State) (h : s.intake.Bounded) :
    (carrySetReceiver receiver enabled offset s).state.intake.Bounded := by
  unfold carrySetReceiver; split <;> simpa using h

theorem carryEnroll_bounded (n : BitVec 16) (team seat : Byte) (s : State) (h : s.intake.Bounded) :
    (carryEnroll n team seat s).state.intake.Bounded := by
  unfold carryEnroll; repeat' split
  all_goals simpa using h

theorem carryWithdraw_bounded (n : BitVec 16) (s : State) (h : s.intake.Bounded) :
    (carryWithdraw n s).state.intake.Bounded := by
  unfold carryWithdraw; repeat' split
  all_goals simpa using h

theorem carryMove_bounded (n : BitVec 16) (team seat : Byte) (s : State) (h : s.intake.Bounded) :
    (carryMove n team seat s).state.intake.Bounded := by
  unfold carryMove; repeat' split
  all_goals simpa using h

theorem carryClearRoster_bounded (s : State) (h : s.intake.Bounded) : (carryClearRoster s).state.intake.Bounded := by
  unfold carryClearRoster; split_ifs <;> exact h

theorem carrySetGuestMap_bounded (positions : BitVec 64) (s : State) (h : s.intake.Bounded) :
    (carrySetGuestMap positions s).state.intake.Bounded := by
  unfold carrySetGuestMap; split_ifs <;> exact h

/-! ### Every step -/

/-- Every row of the table answers a next state and keeps the intake within its bounds. -/
theorem exec_bounded (i : Instr) {s : State} (h : s.intake.Bounded) : ∃ t, exec i s = .next t ∧ t.intake.Bounded := by
  cases hreach : reachesIntake i with
  | false =>
    obtain ⟨t, ht, hintake⟩ := exec_intake_of_not_reaches i s hreach
    exact ⟨t, ht, hintake ▸ h⟩
  | true =>
    cases i with
    | hardReset => exact ⟨s.hardReset, rfl, Intake.reset_bounded⟩
    | showResetExecute =>
      refine ⟨_, rfl, ?_⟩
      split_ifs
      · rw [s.showReset_intake]; exact s.intake.showReset_bounded
      · exact h
    | padFrameArrival f => exact ⟨_, rfl, State.padBytes_bounded _ h⟩
    | padRunt =>
      refine ⟨_, rfl, ?_⟩
      repeat' split
      all_goals simpa using h
    | takeComplete =>
      refine ⟨_, rfl, ?_⟩
      split
      · split_ifs
        · exact State.completeTake_bounded _ h
        · exact h
      · exact h
    | setReceiver r e o => exact desk_intake_of h (carrySetReceiver_bounded r e o)
    | enroll n t k => exact desk_intake_of h (carryEnroll_bounded n t k)
    | withdraw n => exact desk_intake_of h (carryWithdraw_bounded n)
    | move n t k => exact desk_intake_of h (carryMove_bounded n t k)
    | clearRoster => exact desk_intake_of h carryClearRoster_bounded
    | setGuestMap m => exact desk_intake_of h (carrySetGuestMap_bounded m)
    | tick levels => exact ⟨_, rfl, Intake.ticked_bounded h⟩
    | padByteReceived b => exact ⟨_, rfl, State.padByte_bounded b h⟩
    | _ => cases hreach

theorem step_bounded {s t : State} (h : s.intake.Bounded) (hst : step s = .next t) : t.intake.Bounded := by
  unfold step at hst
  split at hst
  · cases hst; exact h
  next i rest _ =>
    obtain ⟨u, hu, hbounded⟩ := exec_bounded i (s := s.setPending rest) h
    rw [hu] at hst
    cases hst; exact hbounded

/-! ### READ INTAKE -/

theorem form1_eq (n : Nat) : form1 n = [BitVec.ofNat 8 n] := by simp [form1, bytesOf]

/-- READ INTAKE leaves the state as it is, and answers DONE with the state of the intake (R74). -/
theorem carryReadIntake_eq (s : State) :
    carryReadIntake s = s.done
      ([BitVec.ofNat 8 s.intake.fifo.length, if s.intake.taking then 1 else 0, if s.intake.overrun then 1 else 0]
        ++ bytesOf 2 s.intake.repeats ++ bytesOf 2 s.intake.outside ++ bytesOf 2 s.intake.stale) := by
  simp [carryReadIntake, form1_eq, formBool, form2]

/-- Settles O46: READ INTAKE's work leaves the state alone, and `step_bounded` carries the bounds over a step. -/
theorem readIntakeReturnsTheState : Obligations.ReadIntakeReturnsTheState := by
  refine ⟨fun s hw => ?reply, fun s t hfifo hrepeats houtside hstale hst => ?bounds⟩
  case reply =>
    have hanswer := desk_of_waiting (carry := carryReadIntake) hw
    rw [carryReadIntake_eq] at hanswer
    exact hanswer
  case bounds => exact step_bounded ⟨hfifo, hrepeats, houtside, hstale⟩ hst

end Sys2Proof.Machine
end

section
/-! The guest map and the roster of the Handset Intake: the index of a handset id, how an entry from a handset that is
not in the roster is handled, and what a hard reset leaves (R76 to R78, R90). -/

namespace Sys2Proof.Machine

/-! ### Handsets outside the roster -/

theorem guestIndex_lt (h : BitVec 16) : guestIndex h < 64 := by
  have : h.toNat * 40503 % 65536 < 65536 := Nat.mod_lt _ (by decide)
  unfold guestIndex
  omega

theorem Intake.rosterEntryOf_of_position_none {x : Intake} {h : BitVec 16} (hp : x.positionOf h = none) :
    x.rosterEntryOf h = none := by
  simp [Intake.rosterEntryOf, hp]

/-- The key of a handset outside the roster whose guest map position is set is handled as a guest's: with no roster
position and no team (R77, R78). -/
theorem State.handle_of_guest {s : State} {e : FifoEntry} (hp : s.intake.positionOf e.handset = none)
    (hg : guestSet s.intake.guestMap (guestIndex e.handset) = true) : s.handle e = s.handleKey e none none := by
  simp [State.handle, Intake.rosterEntryOf_of_position_none hp, hg]

/-- A handset outside the roster whose guest map position is clear is unknown (R76). -/
theorem State.handle_of_unknown {s : State} {e : FifoEntry} (hp : s.intake.positionOf e.handset = none)
    (hg : guestSet s.intake.guestMap (guestIndex e.handset) = false) :
    s.handle e = s.raise (.unknownHandset e.handset e.receiver) := by
  simp [State.handle, Intake.rosterEntryOf_of_position_none hp, hg]

/-- Settles O49: the index is the definition's product; the guest map is read at it for a handset outside the roster. -/
theorem guestIndexOfAnId : Obligations.GuestIndexOfAnId :=
  ⟨fun h => ⟨rfl, guestIndex_lt h⟩, by decide, by decide, by decide, by decide,
    fun _ _ hp => ⟨State.handle_of_guest hp, State.handle_of_unknown hp⟩⟩

/-! ### The hard reset -/

theorem guestSet_zero (i : Nat) : guestSet 0 i = false := by simp [guestSet]

theorem Intake.reset_rosterAt (p : Nat) : Intake.reset.rosterAt p = none :=
  List.getElem?_getD_replicate_default_eq ..

/-- Receivers 0 to 3 are enabled after a hard reset, with offset 0 and both frame counts 0 (R90). -/
theorem State.hardReset_receiverAt (s : State) {r : Nat} (hr : r < 4) : s.hardReset.receiverAt r = ⟨true, 0, 0, 0⟩ :=
  List.getD_replicate _ hr

/-- Settles O16: the intake has its reset value whatever the state before, and each field of it is read off. -/
theorem hardResetEmptiesTheIntake : Obligations.HardResetEmptiesTheIntake := by
  intro s
  have hintake : s.hardReset.intake = Intake.reset := by simp
  refine ⟨s.hardReset, exec_hardReset s, ?rosterLength, ?roster, ?guestMap, ?receiverCount,
    fun _ hr => s.hardReset_receiverAt hr, ?rest⟩ <;> rw [hintake]
  case rosterLength => exact List.length_replicate
  case roster => exact Intake.reset_rosterAt
  case guestMap => exact fun i _ => guestSet_zero i
  case receiverCount => exact List.length_replicate
  case rest => simp [Intake.reset]

end Sys2Proof.Machine
end

section
/-! The tally of a CHOICE round: the rounding of a team's share, and where the keyed tally holds it (R126, R127). -/

namespace Sys2Proof.Machine

/-! ### The share as a rounded quotient -/

theorem le_shareOf_iff {p c m n : Nat} (hm : 0 < m) : n ≤ shareOf p c m ↔ 2 * m * n ≤ 2 * (p * c) + m := by
  rw [shareOf, Nat.le_div_iff_mul_le (by omega), Nat.mul_comm n, Nat.mul_assoc 2 p]

theorem shareOf_lt_iff {p c m n : Nat} (hm : 0 < m) : shareOf p c m < n ↔ 2 * (p * c) + m < 2 * m * n := by
  simpa only [Nat.not_le] using not_congr (le_shareOf_iff hm)

/-- The share is the whole number nearest to P × c ÷ m, and of two at the same distance the greater (R127). -/
theorem shareOf_nearest (p c : Nat) {m : Nat} (hm : 0 < m) :
    2 * m * shareOf p c m ≤ 2 * (p * c) + m ∧ 2 * (p * c) + m < 2 * m * (shareOf p c m + 1) :=
  ⟨(le_shareOf_iff hm).mp le_rfl, (shareOf_lt_iff hm).mp (Nat.lt_succ_self _)⟩

theorem shareOf_le_points {p c m : Nat} (hm : 0 < m) (hc : c ≤ m) : shareOf p c m ≤ p := by
  have hpc : p * c ≤ p * m := Nat.mul_le_mul_left p hc
  refine Nat.le_of_lt_succ ((shareOf_lt_iff hm).mpr ?_)
  calc 2 * (p * c) + m < 2 * (p * m) + 2 * m := by omega
    _ = 2 * m * (p + 1) := by ring

theorem shareOf_none_right (p : Nat) {m : Nat} (hm : 0 < m) : shareOf p 0 m = 0 :=
  Nat.lt_one_iff.mp ((shareOf_lt_iff hm).mpr (by omega))

theorem shareOf_all_right (p : Nat) {m : Nat} (hm : 0 < m) : shareOf p m m = p := by
  refine le_antisymm (shareOf_le_points hm le_rfl) ((le_shareOf_iff hm).mpr ?_)
  calc 2 * m * p = 2 * (p * m) := by ring
    _ ≤ 2 * (p * m) + m := Nat.le_add_right ..

/-- With P at most 500 and at most 192 handsets, no working value of the share is above 192,192 (R127). -/
theorem shareOf_workingValue_le {p c m : Nat} (hp : p ≤ 500) (hc : c ≤ m) (hm : m ≤ 192) :
    p * c * 2 + m ≤ 192192 := by
  have hpc : p * c ≤ 500 * 192 := Nat.mul_le_mul hp (hc.trans hm)
  omega

/-! ### The share in the keyed tally -/

theorem isTeamNumber_iff (t : Nat) : isTeamNumber t = true ↔ 1 ≤ t ∧ t ≤ 24 := by
  simp [isTeamNumber, teamCount]

/-- A list with an element for each team holds a team's at its number less 1. -/
theorem getD_map_teamNumbers {α : Type} (f : Nat → α) (d : α) {t : Nat} (ht : isTeamNumber t = true) :
    (teamNumbers.map f).getD (t - 1) d = f t := by
  obtain ⟨hlow, hhigh⟩ := (isTeamNumber_iff t).mp ht
  have hindex : t - 1 < teamCount := by simp only [teamCount]; omega
  simp [teamNumbers, List.getD_eq_getElem?_getD, hindex, Nat.sub_add_cancel hlow]

theorem Tally.keyed_shareAt (y : Tally) (x : Collector) (p : Nat) (k : OptKey) {t : Nat}
    (ht : isTeamNumber t = true) :
    (y.keyed x p k).shareAt t =
      if 0 < y.membersOf t then some (shareOf p (x.teamRight t k) (y.membersOf t)) else none := by
  rw [Tally.shareAt, Tally.keyed, getD_map_teamNumbers _ none ht]

/-- Settles O51: the share is a quotient rounded down, so its bounds are comparisons of products; the keyed tally holds
it at the team's place. -/
theorem shareOfATeam : Obligations.ShareOfATeam := by
  refine ⟨?rounding, rfl, rfl, rfl, rfl, rfl, ?keyed⟩
  case rounding =>
    intro p c m hm hc
    obtain ⟨hle, hlt⟩ := shareOf_nearest p c hm
    refine ⟨?rule, hle, hlt, shareOf_le_points hm hc, ?noneRight, ?allRight, fun hp => shareOf_workingValue_le hp hc⟩
    case rule => rw [shareOf, Nat.mul_assoc, Nat.mul_comm 2]
    case noneRight => rintro rfl; exact shareOf_none_right p hm
    case allRight => rintro rfl; exact shareOf_all_right p hm
  case keyed =>
    intro y x p t k ht hmembers
    rw [Tally.keyed_shareAt y x p k ht, if_pos hmembers]

end Sys2Proof.Machine
end

section
/-! The Standings Unit: the award of a RIGHT verdict with its bounds (R142), and the team records after a hard reset
(R146, R147, R153). -/

namespace Sys2Proof.Machine

/-! ### The bonus -/

theorem bonus_of_late {d : Descriptor} {t : Nat} (h : d.bonusWindow.toNat * 100 ≤ t) : bonus d t = 0 := if_pos h

theorem bonus_of_early {d : Descriptor} {t : Nat} (h : t < d.bonusWindow.toNat * 100) :
    bonus d t = d.bonusMax.toNat * (d.bonusWindow.toNat * 100 - t) / (d.bonusWindow.toNat * 100) :=
  if_neg (Nat.not_le.mpr h)

/-- R142, step 2. A bonus window of 0 needs no case of its own in the model: every answer time has reached it. -/
theorem bonus_eq (d : Descriptor) (t : Nat) :
    bonus d t =
      if d.bonusWindow.toNat * 100 = 0 ∨ d.bonusWindow.toNat * 100 ≤ t then 0
      else d.bonusMax.toNat * (d.bonusWindow.toNat * 100 - t) / (d.bonusWindow.toNat * 100) := by
  have hzero : (d.bonusWindow.toNat * 100 = 0 ∨ d.bonusWindow.toNat * 100 ≤ t) ↔ d.bonusWindow.toNat * 100 ≤ t := by
    omega
  simp only [bonus, hzero]

theorem bonus_le_max (d : Descriptor) (t : Nat) : bonus d t ≤ d.bonusMax.toNat := by
  rcases Nat.lt_or_ge t (d.bonusWindow.toNat * 100) with h | h
  · rw [bonus_of_early h]
    refine Nat.div_le_of_le_mul ?_
    rw [Nat.mul_comm (d.bonusWindow.toNat * 100)]
    exact Nat.mul_le_mul_left _ (Nat.sub_le ..)
  · simp [bonus_of_late h]

theorem bonus_at_zero {d : Descriptor} (hw : 0 < d.bonusWindow.toNat * 100) : bonus d 0 = d.bonusMax.toNat := by
  rw [bonus_of_early hw, Nat.sub_zero, Nat.mul_div_cancel _ hw]

/-- Once any time has passed the quotient is rounded down to less than Bmax (R142). -/
theorem bonus_lt_max {d : Descriptor} {t : Nat} (hmax : 0 < d.bonusMax.toNat) (ht : 0 < t) :
    bonus d t < d.bonusMax.toNat := by
  rcases Nat.lt_or_ge t (d.bonusWindow.toNat * 100) with h | h
  · rw [bonus_of_early h, Nat.div_lt_iff_lt_mul (by omega)]
    exact Nat.mul_lt_mul_of_pos_left (by omega) hmax
  · rwa [bonus_of_late h]

theorem bonus_eq_max_iff {d : Descriptor} {t : Nat} (hw : 0 < d.bonusWindow.toNat * 100)
    (hmax : 0 < d.bonusMax.toNat) : bonus d t = d.bonusMax.toNat ↔ t = 0 := by
  refine ⟨fun h => ?_, fun h => h ▸ bonus_at_zero hw⟩
  by_contra ht
  exact (bonus_lt_max hmax (Nat.pos_of_ne_zero ht)).ne h

/-- With Bmax at most 250 and a window of at most 30 s, no working value of the bonus is above 7,500,000 (R142). -/
theorem bonus_workingValue_le {d : Descriptor} (t : Nat) (hmax : d.bonusMax.toNat ≤ 250)
    (hw : d.bonusWindow.toNat ≤ 300) : d.bonusMax.toNat * (d.bonusWindow.toNat * 100 - t) ≤ 7500000 :=
  (Nat.mul_le_mul hmax (show d.bonusWindow.toNat * 100 - t ≤ 30000 by omega)).trans_eq (by norm_num)

/-! ### The award -/

/-- R142, steps 1, 3 and 4. -/
theorem awardPoints_eq (d : Descriptor) (f o streak : Nat) :
    awardPoints d f o streak =
      if d.streakScoring then (d.basePoints.toNat + bonus d (f - o)) * (10 + min streak 5) / 10
      else d.basePoints.toNat + bonus d (f - o) := rfl

theorem rawPoints_le {d : Descriptor} (t : Nat) (hbase : d.basePoints.toNat ≤ 500) (hmax : d.bonusMax.toNat ≤ 250) :
    d.basePoints.toNat + bonus d t ≤ 750 :=
  Nat.add_le_add hbase ((bonus_le_max d t).trans hmax)

/-- The multiplier is at most 15, so the award is at most the raw points' greatest value by 15 ÷ 10 (R142). -/
theorem awardPoints_le {d : Descriptor} (f o streak : Nat) (hbase : d.basePoints.toNat ≤ 500)
    (hmax : d.bonusMax.toNat ≤ 250) : awardPoints d f o streak ≤ 1125 := by
  have hraw := rawPoints_le (f - o) hbase hmax
  rw [awardPoints_eq]
  split_ifs
  · have hproduct : (d.basePoints.toNat + bonus d (f - o)) * (10 + min streak 5) ≤ 750 * 15 :=
      Nat.mul_le_mul hraw (by omega)
    omega
  · omega

theorem rightRequest_eq (d : Descriptor) (x : Standings) (team f o : Nat) :
    rightRequest d x team f o =
      ⟨team, .verdict, some .right, some (awardPoints d f o (x.teamAt team).streak : Nat),
        .by (awardPoints d f o (x.teamAt team).streak : Nat)⟩ := rfl

/-- Settles O53: `b` is the model's bonus at the answer time, so each part is a fact about `bonus` or `awardPoints`. -/
theorem awardOfARightVerdict : Obligations.AwardOfARightVerdict := by
  rintro d x team f o _ t _ b - rfl rfl rfl hb
  obtain rfl : b = bonus d (f - o) := hb.trans (bonus_eq d (f - o)).symm
  exact ⟨awardPoints_eq d f o _, rightRequest_eq d x team f o, bonus_le_max d _, bonus_eq_max_iff,
    fun hbase hmax hw => ⟨rawPoints_le _ hbase hmax, awardPoints_le f o _ hbase hmax, bonus_workingValue_le _ hmax hw⟩⟩

/-! ### Teams that are not playing -/

theorem Standings.isPlaying_of_not_playing {x : Standings} {t : Nat} (h : (x.teamAt t).playing = false) :
    x.isPlaying t = false := by
  simp [Standings.isPlaying, h]

/-- A team that is not playing has no position (R146). -/
theorem Standings.position_of_not_playing {x : Standings} {t : Nat} (h : (x.teamAt t).playing = false) :
    x.position t = none := by
  simp [Standings.position, Standings.isPlaying_of_not_playing h]

/-- A team that is not playing has no shown rank under either tie display option (R147). -/
theorem Standings.rank_of_not_playing {x : Standings} {t : Nat} (h : (x.teamAt t).playing = false) :
    x.rank t = none := by
  unfold Standings.rank
  cases x.tie with
  | strict => exact Standings.position_of_not_playing h
  | shared => simp [Standings.isPlaying_of_not_playing h]

/-! ### The hard reset -/

theorem Standings.reset_teamAt (t : Nat) : Standings.reset.teamAt t = TeamRecord.reset :=
  List.getElem?_getD_replicate_default_eq ..

theorem Standings.reset_teamAt_playing (t : Nat) : (Standings.reset.teamAt t).playing = false := by
  rw [Standings.reset_teamAt]; rfl

/-- Settles O17: the unit has its reset value whatever the state before; its records are those of teams that are not
playing, which the ranking leaves out. -/
theorem hardResetClearsTheStandings : Obligations.HardResetClearsTheStandings := by
  intro s
  have hstandings : s.hardReset.standings = Standings.reset := by simp
  refine ⟨s.hardReset, exec_hardReset s, ?count, ?teams, ?counter, ?frozen, ?tie⟩ <;> rw [hstandings]
  case count => exact List.length_replicate
  case teams =>
    intro n _
    have hplaying := Standings.reset_teamAt_playing n
    exact ⟨Standings.reset_teamAt n, Standings.position_of_not_playing hplaying, Standings.rank_of_not_playing hplaying⟩
  case counter => rfl
  case frozen => rfl
  case tie => rfl

end Sys2Proof.Machine
end

section
/-! The control link: what answering a command changes, and IDENTIFY (R182, R184, R193). -/

namespace Sys2Proof.Machine

/-- A reply with any code but BAD CHECK closes the rate window (R182). -/
theorem State.reply_of_ne_badCheck (s : State) {r : Reply} (h : r.code ≠ .badCheck) :
    s.reply r = s.setLink { s.link with reply := some r, carriedOut := true, rateWindow := false } := by
  simp [State.reply, h]

/-- Work that is done changes the link alone, and closes the rate window (R182, R184). -/
theorem State.done_answered (s : State) (data : List Byte) (kind : Byte) :
    (s.done data).answered kind =
      s.setLink { s.link with reply := some ⟨kind, .done, data⟩, carriedOut := true, rateWindow := false } :=
  State.reply_of_ne_badCheck s (r := ⟨kind, .done, data⟩) (by simp)

/-- A command that waits at the front and is done is answered DONE under its kind: of the state that its work leaves,
only the link changes, by the answer, and the rate window closes (R182, R184). -/
theorem desk_of_waiting_of_done {s t : State} {i : Instr} {carry : State → Carried} {data : List Byte}
    (hw : s.waitingCommand = some i) (hdone : carry s = t.done data) :
    desk i carry s = .next
      (t.setLink
        { t.link with reply := some ⟨i.kindByte.getD 0, .done, data⟩, carriedOut := true, rateWindow := false }) := by
  rw [desk_of_waiting hw, hdone, State.done_answered]

/-! ### IDENTIFY -/

theorem exec_identify (s : State) : exec .identify s = desk .identify carryIdentify s := rfl

/-- IDENTIFY's work leaves the state as it is, and returns the part code, the revision, the link mode and the rate code
in one byte (R193). -/
theorem carryIdentify_eq (s : State) :
    carryIdentify s =
      s.done [0x4A, 0x32, 0x34, 0x30, 0x30, 1, s.link.mode.code, BitVec.ofNat 8 s.link.rate] := by
  simp [carryIdentify, form1_eq]

/-- Settles O23: IDENTIFY's work leaves the state as it is, so the answer DONE is all that the step changes. -/
theorem identifyAnswers : Obligations.IdentifyAnswers := by
  intro s hw
  rw [exec_identify]
  exact desk_of_waiting_of_done hw (carryIdentify_eq s)

end Sys2Proof.Machine
end

section
/-! Which units of the part each row of the table can change: the frame of every row, from which what a row keeps follows
without looking into it. -/

namespace Sys2Proof.Machine

/-- The nine units of the part. -/
inductive Part where
  | list | engine | arbiter | consoles | intake | answers | standings | board | link
  deriving DecidableEq

/-- From `s` to `t` only the units of `touched` can differ, and the queue of waiting steps stays. -/
structure Frame (touched : List Part) (s t : State) : Prop where
  list : .list ∉ touched → t.list = s.list
  engine : .engine ∉ touched → t.engine = s.engine
  arbiter : .arbiter ∉ touched → t.arbiter = s.arbiter
  consoles : .consoles ∉ touched → t.consoles = s.consoles
  intake : .intake ∉ touched → t.intake = s.intake
  answers : .answers ∉ touched → t.answers = s.answers
  standings : .standings ∉ touched → t.standings = s.standings
  board : .board ∉ touched → t.board = s.board
  link : .link ∉ touched → t.link = s.link
  pending : t.pending = s.pending

theorem Frame.refl (p : List Part) (s : State) : Frame p s s := by constructor <;> simp

theorem Frame.trans {p : List Part} {s t u : State} (h : Frame p s t) (k : Frame p t u) : Frame p s u where
  list n := (k.list n).trans (h.list n)
  engine n := (k.engine n).trans (h.engine n)
  arbiter n := (k.arbiter n).trans (h.arbiter n)
  consoles n := (k.consoles n).trans (h.consoles n)
  intake n := (k.intake n).trans (h.intake n)
  answers n := (k.answers n).trans (h.answers n)
  standings n := (k.standings n).trans (h.standings n)
  board n := (k.board n).trans (h.board n)
  link n := (k.link n).trans (h.link n)
  pending := k.pending.trans h.pending

/-- The units that a row of the table can change. -/
def reach : Instr → List Part
  | .hardReset | .showResetExecute =>
    [.list, .engine, .arbiter, .consoles, .intake, .answers, .standings, .board, .link]
  | .takeComplete => [.list, .engine, .arbiter, .consoles, .intake, .answers, .standings, .link]
  | .writeRound _ _ | .handOver _ => [.list, .link]
  | .takeBack _ | .setPointer _ | .go => [.list, .engine, .link]
  | .startRound => [.list, .engine, .answers, .link]
  | .openRound | .pause | .readingTimerExpiry | .roundTimerSecond => [.engine, .link]
  | .closeRound | .revealKey _ | .roundTimerExpiry =>
    [.list, .engine, .arbiter, .consoles, .answers, .standings, .link]
  | .judge _ => [.list, .engine, .arbiter, .consoles, .standings, .board, .link]
  | .resume | .roundClockHold | .settleDeadlineReached => [.list, .engine, .arbiter, .consoles, .link]
  | .abandon => [.list, .engine, .arbiter, .consoles, .answers, .link]
  | .answerTimerExpiry | .linePressAccepted _ => [.list, .engine, .arbiter, .consoles, .standings, .link]
  | .answerTimerBlink | .lineRunStart _ | .lineReady _ | .lineReleaseAccepted _ | .lampBlinkTimerExpiry => [.consoles]
  | .stuck _ | .cleared _ | .setLine _ _ _ _ => [.consoles, .link]
  | .padFrameArrival _ | .padRunt | .padByteReceived _ | .setReceiver _ _ _ | .enroll _ _ _ | .withdraw _ | .move _ _ _
  | .clearRoster | .setGuestMap _ => [.intake, .link]
  | .setTeam _ _ _ _ _ | .adjustScore _ _ | .setScore _ _ | .setTieDisplay _ | .freeze | .unfreeze
  | .setHouse _ _ _ _ _ _ | .setPlacePoints _ | .commitGame _ => [.standings, .link]
  | .holdBoards | .revealBoards _ | .revealStep | .releaseBoards | .checkPanels | .setLeaderboardMode _
  | .panelPollReply _ _ _ | .panelPollTimeout => [.board, .link]
  | .winnerBlinkEnd _ | .refreshSendBegin | .refreshSendComplete | .pollBegin => [.board]
  | .tick _ => [.engine, .consoles, .intake, .board, .link]
  | .modeByte _ | .commandFrameComplete _ | .linkFrameAbandoned _ | .linkFrameGap | .unknownKind _ | .identify
  | .setRate _ | .statusGet | .setNoticeMask _ | .holdReports _ | .fetchReports _ | .showReset | .readRound _
  | .readLine _ | .readReceiver _ | .readIntake | .readGuestMap | .readHandset _ | .readRoster _ | .readAnswers _ _
  | .readFloor | .readStandings _ _ | .readHouses _ | .readBoard _ _ | .replySendBegin | .replySent | .reportSendBegin
  | .reportSent | .reportHoldExpiry | .linkByteReceived _ => [.link]

/-! ### The work of each desk command -/

theorem carrySetRate_frame (rate : Byte) (s : State) : Frame [.link] s (carrySetRate rate s).state := by
  unfold carrySetRate; split_ifs <;> constructor <;> simp

theorem carrySetNoticeMask_frame (x : BitVec 16) (s : State) : Frame [.link] s (carrySetNoticeMask x s).state := by
  unfold carrySetNoticeMask; split_ifs <;> constructor <;> simp

theorem carryHoldReports_frame (x : BitVec 16) (s : State) : Frame [.link] s (carryHoldReports x s).state := by
  unfold carryHoldReports; split_ifs <;> constructor <;> simp

theorem carryFetchReports_frame (n : Byte) (s : State) : Frame [.link] s (carryFetchReports n s).state := by
  unfold carryFetchReports; split_ifs <;> constructor <;> simp

theorem carryWriteRound_frame (slot : Byte) (d : DescriptorPayload) (s : State) :
    Frame [.list, .link] s (carryWriteRound slot d s).state := by
  unfold carryWriteRound; repeat' split
  all_goals constructor <;> simp

theorem carryHandOver_frame (slot : Byte) (s : State) : Frame [.list, .link] s (carryHandOver slot s).state := by
  unfold carryHandOver; repeat' split
  all_goals constructor <;> simp

theorem carryTakeBack_frame (slot : Byte) (s : State) : Frame [.list, .engine, .link] s (carryTakeBack slot s).state := by
  unfold carryTakeBack; repeat' split
  all_goals constructor <;> simp

theorem carrySetPointer_frame (slot : Byte) (s : State) :
    Frame [.list, .engine, .link] s (carrySetPointer slot s).state := by
  unfold carrySetPointer; repeat' split
  all_goals constructor <;> simp

theorem carryGo_frame (s : State) : Frame [.list, .engine, .link] s (carryGo s).state := by
  unfold carryGo; split_ifs <;> constructor <;> simp

theorem carryStartRound_frame (s : State) : Frame [.list, .engine, .answers, .link] s (carryStartRound s).state := by
  unfold carryStartRound; split_ifs <;> constructor <;> simp

theorem carryOpenRound_frame (s : State) : Frame [.engine, .link] s (carryOpenRound s).state := by
  unfold carryOpenRound; split_ifs <;> constructor <;> simp

theorem carryPause_frame (s : State) : Frame [.engine, .link] s (carryPause s).state := by
  unfold carryPause; split_ifs <;> constructor <;> simp

theorem carryCloseRound_frame (s : State) :
    Frame [.list, .engine, .arbiter, .consoles, .answers, .standings, .link] s (carryCloseRound s).state := by
  unfold carryCloseRound; split_ifs <;> constructor <;> simp

theorem carryRevealKey_frame (o : Byte) (s : State) :
    Frame [.list, .engine, .arbiter, .consoles, .answers, .standings, .link] s (carryRevealKey o s).state := by
  unfold carryRevealKey; repeat' split
  all_goals constructor <;> simp

theorem carryJudge_frame (v : Byte) (s : State) :
    Frame [.list, .engine, .arbiter, .consoles, .standings, .board, .link] s (carryJudge v s).state := by
  unfold carryJudge; repeat' split
  all_goals constructor <;> simp

theorem carryResume_frame (s : State) :
    Frame [.list, .engine, .arbiter, .consoles, .link] s (carryResume s).state := by
  unfold carryResume; split_ifs <;> constructor <;> simp

theorem carryAbandon_frame (s : State) :
    Frame [.list, .engine, .arbiter, .consoles, .answers, .link] s (carryAbandon s).state := by
  unfold carryAbandon; split_ifs <;> constructor <;> simp

theorem carrySetLine_frame (n e p f : Byte) (s : State) : Frame [.consoles, .link] s (carrySetLine n e p f s).state := by
  unfold carrySetLine; split <;> constructor <;> simp

theorem carrySetReceiver_frame (r e o : Byte) (s : State) :
    Frame [.intake, .link] s (carrySetReceiver r e o s).state := by
  unfold carrySetReceiver; split <;> constructor <;> simp

theorem carryEnroll_frame (h : BitVec 16) (t k : Byte) (s : State) :
    Frame [.intake, .link] s (carryEnroll h t k s).state := by
  unfold carryEnroll; repeat' split
  all_goals constructor <;> simp

theorem carryWithdraw_frame (h : BitVec 16) (s : State) : Frame [.intake, .link] s (carryWithdraw h s).state := by
  unfold carryWithdraw; repeat' split
  all_goals constructor <;> simp

theorem carryMove_frame (h : BitVec 16) (t k : Byte) (s : State) :
    Frame [.intake, .link] s (carryMove h t k s).state := by
  unfold carryMove; repeat' split
  all_goals constructor <;> simp

theorem carryClearRoster_frame (s : State) : Frame [.intake, .link] s (carryClearRoster s).state := by
  unfold carryClearRoster; split_ifs <;> constructor <;> simp

theorem carrySetGuestMap_frame (m : BitVec 64) (s : State) : Frame [.intake, .link] s (carrySetGuestMap m s).state := by
  unfold carrySetGuestMap; split_ifs <;> constructor <;> simp

theorem carrySetTeam_frame (t l : Byte) (n : List Byte) (p h : Byte) (s : State) :
    Frame [.standings, .link] s (carrySetTeam t l n p h s).state := by
  unfold carrySetTeam State.storeTeam; repeat' split
  all_goals constructor <;> simp

theorem carryAdjustScore_frame (t : Byte) (d : BitVec 16) (s : State) :
    Frame [.standings, .link] s (carryAdjustScore t d s).state := by
  unfold carryAdjustScore State.correct; repeat' split
  all_goals constructor <;> simp

theorem carrySetScore_frame (t : Byte) (d : BitVec 16) (s : State) :
    Frame [.standings, .link] s (carrySetScore t d s).state := by
  unfold carrySetScore State.correct; repeat' split
  all_goals constructor <;> simp

theorem carrySetTieDisplay_frame (o : Byte) (s : State) :
    Frame [.standings, .link] s (carrySetTieDisplay o s).state := by
  unfold carrySetTieDisplay; split <;> constructor <;> simp

theorem carryFreeze_frame (s : State) : Frame [.standings, .link] s (carryFreeze s).state := by
  unfold carryFreeze; split_ifs <;> constructor <;> simp

theorem carryUnfreeze_frame (s : State) : Frame [.standings, .link] s (carryUnfreeze s).state := by
  unfold carryUnfreeze; split_ifs <;> constructor <;> simp

theorem carrySetHouse_frame (h l : Byte) (n : List Byte) (p : Byte) (x : BitVec 24) (g : Byte) (s : State) :
    Frame [.standings, .link] s (carrySetHouse h l n p x g s).state := by
  unfold carrySetHouse State.storeHouse; repeat' split
  all_goals constructor <;> simp

theorem carrySetPlacePoints_frame (p : List Byte) (s : State) :
    Frame [.standings, .link] s (carrySetPlacePoints p s).state := by
  unfold carrySetPlacePoints; split_ifs <;> constructor <;> simp

theorem carryCommitGame_frame (m : Byte) (s : State) : Frame [.standings, .link] s (carryCommitGame m s).state := by
  unfold carryCommitGame State.commit; repeat' split
  all_goals constructor <;> simp

theorem carryHoldBoards_frame (s : State) : Frame [.board, .link] s (carryHoldBoards s).state := by
  unfold carryHoldBoards; split_ifs <;> constructor <;> simp

theorem carryRevealBoards_frame (n : Byte) (s : State) : Frame [.board, .link] s (carryRevealBoards n s).state := by
  unfold carryRevealBoards; split_ifs <;> constructor <;> simp

theorem carryReleaseBoards_frame (s : State) : Frame [.board, .link] s (carryReleaseBoards s).state := by
  unfold carryReleaseBoards; split_ifs <;> constructor <;> simp

theorem carryCheckPanels_frame (s : State) : Frame [.board, .link] s (carryCheckPanels s).state := by
  unfold carryCheckPanels; split_ifs <;> constructor <;> simp

theorem carrySetLeaderboardMode_frame (m : Byte) (s : State) :
    Frame [.board, .link] s (carrySetLeaderboardMode m s).state := by
  unfold carrySetLeaderboardMode; split <;> constructor <;> simp

/-! ### The reads leave the state as it is -/

@[simp] theorem carryReadRound_state (slot : Byte) (s : State) : (carryReadRound slot s).state = s := by
  unfold carryReadRound; split <;> simp

@[simp] theorem carryReadLine_state (n : Byte) (s : State) : (carryReadLine n s).state = s := by
  unfold carryReadLine; split <;> simp

@[simp] theorem carryReadReceiver_state (r : Byte) (s : State) : (carryReadReceiver r s).state = s := by
  unfold carryReadReceiver; split <;> simp

@[simp] theorem carryReadHandset_state (h : BitVec 16) (s : State) : (carryReadHandset h s).state = s := by
  unfold carryReadHandset; split <;> simp

@[simp] theorem carryReadRoster_state (p : Byte) (s : State) : (carryReadRoster p s).state = s := by
  unfold carryReadRoster; repeat' split
  all_goals simp

@[simp] theorem carryReadAnswers_state (v a : Byte) (s : State) : (carryReadAnswers v a s).state = s := by
  unfold carryReadAnswers; repeat' split
  all_goals simp

@[simp] theorem carryReadStandings_state (v a : Byte) (s : State) : (carryReadStandings v a s).state = s := by
  unfold carryReadStandings; repeat' split
  all_goals simp

@[simp] theorem carryReadHouses_state (v : Byte) (s : State) : (carryReadHouses v s).state = s := by
  unfold carryReadHouses; split_ifs <;> simp

@[simp] theorem carryReadBoard_state (v a : Byte) (s : State) : (carryReadBoard v a s).state = s := by
  unfold carryReadBoard; split_ifs <;> simp

theorem Frame.of_eq {p : List Part} {s t : State} (h : t = s) : Frame p s t := h ▸ Frame.refl p s

/-! ### Every row -/

/-- What frames a command's work frames its step: the frame's arrival and the reply are the link's. -/
theorem desk_frame {p : List Part} {i : Instr} {carry : State → Carried} (s : State)
    (hc : ∀ u : State, Frame p u (carry u).state) (hlink : Part.link ∈ p := by simp [reach]) : ∃ t, desk i carry s = .next t ∧ Frame p s t := by
  have hbring : Frame p s (s.bring i) := by constructor <;> simp [hlink]
  refine ⟨_, desk_next i carry s, ?_⟩
  split
  · have hreply : Frame p (carry (s.bring i)).state ((carry (s.bring i)).answered (i.kindByte.getD 0)) := by
      constructor <;> simp [hlink]
    exact (hbring.trans (hc _)).trans hreply
  · exact hbring

/-- Bytes at the pad port reach the intake, and the link by the events that they raise (R69). -/
theorem Frame.padBytes (bytes : List Byte) (s : State) :
    Frame [.intake, .link] s (bytes.foldl State.padByte s) := by
  induction bytes generalizing s with
  | nil => exact Frame.refl _ s
  | cons b bytes ih =>
    have hbyte : Frame [.intake, .link] s (s.padByte b) := by constructor <;> simp
    exact hbyte.trans (ih (s.padByte b))

/-- Every row answers a next state, and changes only the units that `reach` names. -/
theorem exec_frame (i : Instr) (s : State) : ∃ t, exec i s = .next t ∧ Frame (reach i) s t := by
  cases i with
  | hardReset => exact ⟨_, rfl, by constructor <;> simp [reach]⟩
  | showResetExecute | modeByte | linkByteReceived | commandFrameComplete | readingTimerExpiry | roundTimerExpiry
  | roundClockHold | settleDeadlineReached | lineReady | linePressAccepted | lineReleaseAccepted | stuck | cleared
  | lampBlinkTimerExpiry | revealStep | winnerBlinkEnd | refreshSendBegin | refreshSendComplete | pollBegin | tick
  | reportHoldExpiry | padByteReceived | linkFrameAbandoned | linkFrameGap | unknownKind | roundTimerSecond
  | answerTimerBlink | answerTimerExpiry | lineRunStart | padRunt | takeComplete | replySendBegin | replySent
  | reportSendBegin | reportSent =>
    refine ⟨_, rfl, ?_⟩
    repeat' split
    all_goals constructor <;> simp [reach]
  | padFrameArrival f => exact ⟨_, rfl, Frame.padBytes _ s⟩
  | panelPollReply a b c =>
    simp only [exec, execPanelPollReply]
    split <;> refine ⟨_, rfl, ?_⟩
    · split <;> constructor <;> simp [reach]
    all_goals exact Frame.refl _ _
  | panelPollTimeout =>
    simp only [exec, execPanelPollTimeout]
    split <;> refine ⟨_, rfl, ?_⟩
    · split <;> constructor <;> simp [reach]
    all_goals exact Frame.refl _ _
  | identify => exact desk_frame s fun u => Frame.refl _ u
  | setRate r => exact desk_frame s (carrySetRate_frame r)
  | statusGet => exact desk_frame s fun u => by constructor <;> simp [carryStatusGet, reach]
  | setNoticeMask x => exact desk_frame s (carrySetNoticeMask_frame x)
  | holdReports x => exact desk_frame s (carryHoldReports_frame x)
  | fetchReports n => exact desk_frame s (carryFetchReports_frame n)
  | showReset => exact desk_frame s fun u => by constructor <;> simp [carryShowReset, reach]
  | writeRound k d => exact desk_frame s (carryWriteRound_frame k d)
  | handOver k => exact desk_frame s (carryHandOver_frame k)
  | takeBack k => exact desk_frame s (carryTakeBack_frame k)
  | setPointer k => exact desk_frame s (carrySetPointer_frame k)
  | go => exact desk_frame s carryGo_frame
  | startRound => exact desk_frame s carryStartRound_frame
  | openRound => exact desk_frame s carryOpenRound_frame
  | closeRound => exact desk_frame s carryCloseRound_frame
  | judge v => exact desk_frame s (carryJudge_frame v)
  | revealKey o => exact desk_frame s (carryRevealKey_frame o)
  | pause => exact desk_frame s carryPause_frame
  | resume => exact desk_frame s carryResume_frame
  | abandon => exact desk_frame s carryAbandon_frame
  | setLine n e p f => exact desk_frame s (carrySetLine_frame n e p f)
  | setReceiver r e o => exact desk_frame s (carrySetReceiver_frame r e o)
  | enroll h t k => exact desk_frame s (carryEnroll_frame h t k)
  | withdraw h => exact desk_frame s (carryWithdraw_frame h)
  | move h t k => exact desk_frame s (carryMove_frame h t k)
  | clearRoster => exact desk_frame s carryClearRoster_frame
  | setGuestMap m => exact desk_frame s (carrySetGuestMap_frame m)
  | setTeam t l n p h => exact desk_frame s (carrySetTeam_frame t l n p h)
  | adjustScore t d => exact desk_frame s (carryAdjustScore_frame t d)
  | setScore t d => exact desk_frame s (carrySetScore_frame t d)
  | setTieDisplay o => exact desk_frame s (carrySetTieDisplay_frame o)
  | freeze => exact desk_frame s carryFreeze_frame
  | unfreeze => exact desk_frame s carryUnfreeze_frame
  | setHouse h l n p x g => exact desk_frame s (carrySetHouse_frame h l n p x g)
  | setPlacePoints p => exact desk_frame s (carrySetPlacePoints_frame p)
  | commitGame m => exact desk_frame s (carryCommitGame_frame m)
  | holdBoards => exact desk_frame s carryHoldBoards_frame
  | revealBoards n => exact desk_frame s (carryRevealBoards_frame n)
  | releaseBoards => exact desk_frame s carryReleaseBoards_frame
  | checkPanels => exact desk_frame s carryCheckPanels_frame
  | setLeaderboardMode m => exact desk_frame s (carrySetLeaderboardMode_frame m)
  | readIntake => exact desk_frame s fun u => Frame.refl _ u
  | readGuestMap => exact desk_frame s fun u => Frame.refl _ u
  | readFloor => exact desk_frame s fun u => Frame.refl _ u
  | readRound k => exact desk_frame s fun u => .of_eq (carryReadRound_state k u)
  | readLine n => exact desk_frame s fun u => .of_eq (carryReadLine_state n u)
  | readReceiver r => exact desk_frame s fun u => .of_eq (carryReadReceiver_state r u)
  | readHandset h => exact desk_frame s fun u => .of_eq (carryReadHandset_state h u)
  | readRoster p => exact desk_frame s fun u => .of_eq (carryReadRoster_state p u)
  | readAnswers v a => exact desk_frame s fun u => .of_eq (carryReadAnswers_state v a u)
  | readStandings v a => exact desk_frame s fun u => .of_eq (carryReadStandings_state v a u)
  | readHouses v => exact desk_frame s fun u => .of_eq (carryReadHouses_state v u)
  | readBoard v a => exact desk_frame s fun u => .of_eq (carryReadBoard_state v a u)

/-- What a row that answers leaves of the state. -/
theorem Frame.of_exec {i : Instr} {s t : State} (h : exec i s = .next t) : Frame (reach i) s t := by
  obtain ⟨u, hu, hframe⟩ := exec_frame i s
  rw [hu] at h
  cases h
  exact hframe

/-- A property that the queue of waiting steps does not touch and every row keeps, every step keeps. -/
theorem step_keeps {P : State → Prop} (hqueue : ∀ (s : State) (q : List Instr), P s → P (s.setPending q))
    (hexec : ∀ (i : Instr) (s : State), P s → ∃ t, exec i s = .next t ∧ P t) {s t : State} (h : P s)
    (hst : step s = .next t) : P t := by
  unfold step at hst
  split at hst
  · cases hst; exact h
  next i rest _ =>
    obtain ⟨u, hu, hP⟩ := hexec i (s.setPending rest) (hqueue s rest h)
    rw [hu] at hst
    cases hst; exact hP

/-- Settles O1: the queue's front is the row that `step` takes out. -/
theorem stepRunsTheFrontStep : Obligations.StepRunsTheFrontStep := fun _ _ _ => rfl

/-- Settles O2: the frame of every row holds the queue. -/
theorem everyStepAnswersAndKeepsTheQueue : Obligations.EveryStepAnswersAndKeepsTheQueue := fun i s => by
  obtain ⟨t, ht, hframe⟩ := exec_frame i s
  exact ⟨t, ht, hframe.pending⟩

end Sys2Proof.Machine
end

section
/-! The control link along a step: what tells events and nothing else, and that every row keeps the link's stores within
their limits and its mode, replies, fetches and holds fitting (R181, R184, R187, R188, R191). -/

namespace Sys2Proof.Machine

/-! ### The work of a desk command -/

/-- The work of a desk command, less the arrival of its frame and its reply. -/
def carryOf : Instr → Option (State → Carried)
  | .identify => some carryIdentify
  | .setRate rate => some (carrySetRate rate)
  | .statusGet => some carryStatusGet
  | .setNoticeMask x => some (carrySetNoticeMask x)
  | .holdReports x => some (carryHoldReports x)
  | .fetchReports n => some (carryFetchReports n)
  | .showReset => some carryShowReset
  | .writeRound k d => some (carryWriteRound k d)
  | .readRound k => some (carryReadRound k)
  | .handOver k => some (carryHandOver k)
  | .takeBack k => some (carryTakeBack k)
  | .setPointer k => some (carrySetPointer k)
  | .go => some carryGo
  | .startRound => some carryStartRound
  | .openRound => some carryOpenRound
  | .closeRound => some carryCloseRound
  | .judge v => some (carryJudge v)
  | .revealKey o => some (carryRevealKey o)
  | .pause => some carryPause
  | .resume => some carryResume
  | .abandon => some carryAbandon
  | .setLine n e p f => some (carrySetLine n e p f)
  | .readLine n => some (carryReadLine n)
  | .setReceiver r e o => some (carrySetReceiver r e o)
  | .readReceiver r => some (carryReadReceiver r)
  | .readIntake => some carryReadIntake
  | .enroll h t k => some (carryEnroll h t k)
  | .withdraw h => some (carryWithdraw h)
  | .move h t k => some (carryMove h t k)
  | .clearRoster => some carryClearRoster
  | .setGuestMap m => some (carrySetGuestMap m)
  | .readGuestMap => some carryReadGuestMap
  | .readHandset h => some (carryReadHandset h)
  | .readRoster p => some (carryReadRoster p)
  | .readAnswers v a => some (carryReadAnswers v a)
  | .readFloor => some carryReadFloor
  | .setTeam t l n p h => some (carrySetTeam t l n p h)
  | .adjustScore t d => some (carryAdjustScore t d)
  | .setScore t d => some (carrySetScore t d)
  | .setTieDisplay o => some (carrySetTieDisplay o)
  | .freeze => some carryFreeze
  | .unfreeze => some carryUnfreeze
  | .readStandings v a => some (carryReadStandings v a)
  | .setHouse h l n p x g => some (carrySetHouse h l n p x g)
  | .setPlacePoints p => some (carrySetPlacePoints p)
  | .commitGame m => some (carryCommitGame m)
  | .readHouses v => some (carryReadHouses v)
  | .holdBoards => some carryHoldBoards
  | .revealBoards n => some (carryRevealBoards n)
  | .releaseBoards => some carryReleaseBoards
  | .checkPanels => some carryCheckPanels
  | .setLeaderboardMode m => some (carrySetLeaderboardMode m)
  | .readBoard v a => some (carryReadBoard v a)
  | _ => none

theorem exec_of_carry {i : Instr} {carry : State → Carried} (h : carryOf i = some carry) (s : State) :
    exec i s = desk i carry s := by
  cases i <;> cases h <;> rfl

/-- A property that the control link's own steps keep, and the work of a command keeps where that command waits, the
whole step of the command keeps. -/
theorem desk_keeps {P : State → Prop} {i : Instr} {carry : State → Carried} {s : State} (h : P s)
    (hbring : P s → P (s.bring i))
    (hcarry : ∀ u : State, u.waitingCommand = some i → P u → P ((carry u).answered (i.kindByte.getD 0))) :
    ∃ t, desk i carry s = .next t ∧ P t := by
  refine ⟨_, desk_next i carry s, ?_⟩
  split
  next hwait => exact hcarry _ hwait (hbring h)
  · exact hbring h

/-! ### Steps that only tell events -/

/-- From `s` to `t` the link at most tells events: it is the same but for flags, queue, lost mark and dropped count, and
the queue keeps within its bounds. -/
structure OnlyTells (s t : State) : Prop where
  quiet : t.link.quiet = s.link.quiet
  queueOk : s.link.queueOk → t.link.queueOk

theorem OnlyTells.of_link {s t : State} (h : t.link = s.link) : OnlyTells s t := ⟨by rw [h], by rw [h]; exact id⟩

theorem OnlyTells.trans {s t u : State} (h : OnlyTells s t) (k : OnlyTells t u) : OnlyTells s u :=
  ⟨k.quiet.trans h.quiet, fun hq => k.queueOk (h.queueOk hq)⟩

theorem OnlyTells.raise {s t : State} (h : OnlyTells s t) (e : Event) : OnlyTells s (t.raise e) :=
  ⟨(t.raise_quiet e).trans h.quiet, fun hq => t.raise_queueOk e (h.queueOk hq)⟩

@[simp] theorem OnlyTells.refl (s : State) : OnlyTells s s := .of_link rfl

@[simp] theorem OnlyTells.setStandings (s : State) (x : Standings) : OnlyTells s (s.setStandings x) := .of_link rfl

@[simp] theorem OnlyTells.setBoard (s : State) (x : Board) : OnlyTells s (s.setBoard x) := .of_link rfl

theorem OnlyTells.raise_setConsoles (s : State) (x : ConsoleUnit) (e : Event) :
    OnlyTells s ((s.setConsoles x).raise e) := (OnlyTells.of_link rfl : OnlyTells s (s.setConsoles x)).raise e

@[simp] theorem OnlyTells.raise_setStandings (s : State) (x : Standings) (e : Event) :
    OnlyTells s ((s.setStandings x).raise e) := (OnlyTells.setStandings s x).raise e

@[simp] theorem OnlyTells.raise_setBoard (s : State) (x : Board) (e : Event) :
    OnlyTells s ((s.setBoard x).raise e) := (OnlyTells.setBoard s x).raise e

@[simp] theorem OnlyTells.scoreChange (s : State) (q : ScoreRequest) : OnlyTells s (s.scoreChange q) :=
  OnlyTells.raise_setStandings s _ _

/-- The commands of the control link itself. -/
def isLinkCommand : Instr → Bool
  | .setRate _ | .statusGet | .setNoticeMask _ | .holdReports _ | .fetchReports _ | .showReset => true
  | _ => false

/-- The work of a command that is not the link's own at most tells events. -/
theorem carry_onlyTells {i : Instr} {carry : State → Carried} (h : carryOf i = some carry)
    (hown : isLinkCommand i = false) (s : State) : OnlyTells s (carry s).state := by
  cases i with
  | setRate | statusGet | setNoticeMask | holdReports | fetchReports | showReset => cases hown
  | identify | readIntake | readGuestMap | readFloor => cases h; exact .of_link rfl
  | readRound | readLine | readReceiver | readHandset | readRoster | readAnswers | readStandings | readHouses
  | readBoard => cases h; exact .of_link (by simp)
  | setTeam | adjustScore | setScore | setTieDisplay | setHouse | commitGame | setLeaderboardMode | freeze | unfreeze
  | setPlacePoints | holdBoards | revealBoards | releaseBoards | checkPanels =>
    cases h
    simp only [carrySetTeam, State.storeTeam, carryAdjustScore, carrySetScore, State.correct, carrySetTieDisplay,
      carrySetHouse, State.storeHouse, carryCommitGame, State.commit, carrySetLeaderboardMode, carryFreeze,
      carryUnfreeze, carrySetPlacePoints, carryHoldBoards, carryRevealBoards, carryReleaseBoards, carryCheckPanels]
    repeat' split
    all_goals simp
  | writeRound | handOver | takeBack | setPointer | setLine | setReceiver | enroll | withdraw | move | judge | revealKey
  | go | startRound | openRound | closeRound | pause | resume | abandon | clearRoster | setGuestMap =>
    cases h
    simp only [carryWriteRound, carryHandOver, carryTakeBack, carrySetPointer, carrySetLine, carrySetReceiver,
      carryEnroll, carryWithdraw, carryMove, carryJudge, carryRevealKey, carryGo, carryStartRound, carryOpenRound,
      carryCloseRound, carryPause, carryResume, carryAbandon, carryClearRoster, carrySetGuestMap]
    repeat' split
    all_goals exact ⟨by simp, fun hq => by simp [hq]⟩
  | _ => cases h
/-- The rows of the control link that do more than tell events, the desk commands apart. -/
def isLinkRow : Instr → Bool
  | .hardReset | .modeByte _ | .commandFrameComplete _ | .linkFrameAbandoned _ | .linkFrameGap | .unknownKind _
  | .showResetExecute | .replySendBegin | .replySent | .reportSendBegin | .reportSent | .reportHoldExpiry | .tick _
  | .linkByteReceived _ => true
  | _ => false

theorem OnlyTells.padByte (b : Byte) (s : State) : OnlyTells s (s.padByte b) := ⟨by simp, fun hq => by simp [hq]⟩

theorem OnlyTells.padBytes (bytes : List Byte) (s : State) : OnlyTells s (bytes.foldl State.padByte s) := by
  induction bytes generalizing s with
  | nil => exact .refl s
  | cons b bytes ih => exact (OnlyTells.padByte b s).trans (ih (s.padByte b))

/-- A row that is neither a desk command nor the link's own at most tells events. -/
theorem exec_onlyTells {i : Instr} (hcarry : carryOf i = none) (hrow : isLinkRow i = false) (s : State) :
    ∃ t, exec i s = .next t ∧ OnlyTells s t := by
  by_cases hlink : Part.link ∈ reach i
  case neg =>
    obtain ⟨t, ht, hframe⟩ := exec_frame i s
    exact ⟨t, ht, .of_link (hframe.link hlink)⟩
  cases i with
  | hardReset | modeByte | commandFrameComplete | linkFrameAbandoned | linkFrameGap | unknownKind | showResetExecute
  | replySendBegin | replySent | reportSendBegin | reportSent | reportHoldExpiry | tick | linkByteReceived => cases hrow
  | readingTimerExpiry | roundTimerExpiry | roundClockHold | settleDeadlineReached | linePressAccepted | takeComplete
  | roundTimerSecond | answerTimerExpiry | padRunt | padByteReceived =>
    refine ⟨_, rfl, ?_⟩
    repeat' split
    all_goals exact ⟨by simp, fun hq => by simp [hq]⟩
  | padFrameArrival => exact ⟨_, rfl, .padBytes _ s⟩
  | stuck | cleared =>
    refine ⟨_, rfl, ?_⟩
    split
    · exact .raise_setConsoles s _ _
    · exact .refl s
  | revealStep =>
    refine ⟨_, rfl, ?_⟩
    split <;> exact ⟨by simp, fun hq => by simp [hq]⟩
  | panelPollReply =>
    simp only [exec, execPanelPollReply]
    repeat' split
    all_goals exact ⟨_, rfl, ⟨by simp, fun hq => by simp [hq]⟩⟩
  | panelPollTimeout =>
    simp only [exec, execPanelPollTimeout]
    repeat' split
    all_goals exact ⟨_, rfl, ⟨by simp, fun hq => by simp [hq]⟩⟩
  | winnerBlinkEnd | refreshSendBegin | refreshSendComplete | pollBegin | answerTimerBlink | lineRunStart | lineReady
  | lineReleaseAccepted | lampBlinkTimerExpiry => simp [reach] at hlink
  | _ => cases hcarry

/-! ### What a change of the link keeps -/

/-- The stores of the link within their limits (R184, R191). -/
def Link.StoresOk (l : Link) : Prop := l.queueOk ∧ l.buffer.length ≤ 2

/-- From the link `l` to the link `m` the fitting of the link and the limits of its stores are kept. -/
structure LinkKept (l m : Link) : Prop where
  fits : LinkFits l → LinkFits m
  replies : LinkFits l → RepliesFit l → RepliesFit m
  stores : l.StoresOk → m.StoresOk

theorem LinkKept.refl (l : Link) : LinkKept l l := ⟨id, fun _ => id, id⟩

theorem LinkKept.trans {l m n : Link} (h : LinkKept l m) (k : LinkKept m n) : LinkKept l n :=
  ⟨fun x => k.fits (h.fits x), fun x y => k.replies (h.fits x) (h.replies x y), fun x => k.stores (h.stores x)⟩

/-- Of the link, the fitting reads what `Link.quiet` leaves. -/
theorem linkFits_of_quiet {l m : Link} (h : m.quiet = l.quiet) (hl : LinkFits l) : LinkFits m := by
  have hm : LinkFits l.quiet := hl
  rw [← h] at hm
  exact hm

theorem repliesFit_of_quiet {l m : Link} (h : m.quiet = l.quiet) (hl : RepliesFit l) : RepliesFit m := by
  have hm : RepliesFit l.quiet := hl
  rw [← h] at hm
  exact hm

theorem Link.fields_of_quiet {l m : Link} (h : m.quiet = l.quiet) :
    m.mode = l.mode ∧ m.hold = l.hold ∧ m.fetchLeft = l.fetchLeft ∧ m.buffer = l.buffer ∧ m.reply = l.reply ∧
      m.line = l.line ∧ m.carriedOut = l.carriedOut := by
  simp only [Link.quiet, Link.mk.injEq] at h
  tauto

theorem LinkKept.of_tells {s t : State} (h : OnlyTells s t) : LinkKept s.link t.link := by
  refine ⟨linkFits_of_quiet h.quiet, fun _ => repliesFit_of_quiet h.quiet, fun ⟨hq, hb⟩ => ⟨h.queueOk hq, ?_⟩⟩
  obtain ⟨_, _, _, hbuffer, _⟩ := Link.fields_of_quiet h.quiet
  rwa [hbuffer]

/-- What the fitting does not read: a frame in part, the rate, the window, flags and mask, and a show reset asked for. -/
theorem LinkKept.of_eq {l m : Link} (hmode : m.mode = l.mode) (hhold : m.hold = l.hold)
    (hfetch : m.fetchLeft = l.fetchLeft) (hbuffer : m.buffer = l.buffer) (hreply : m.reply = l.reply)
    (hline : m.line = l.line) (hcarried : m.carriedOut = l.carriedOut) (hqueue : m.queue = l.queue)
    (hdropped : m.dropped = l.dropped) : LinkKept l m := by
  refine ⟨fun h => ?fits, fun _ h => ?replies, fun h => ?stores⟩
  case fits => simpa only [LinkFits, hmode, hhold, hfetch, hbuffer, hreply, hline] using h
  case replies => simpa only [RepliesFit, hmode, hfetch, hbuffer, hreply, hline, hcarried] using h
  case stores => simpa only [Link.StoresOk, Link.queueOk, hbuffer, hqueue, hdropped] using h

/-! ### Receiving -/

theorem State.linkWaits_kept (s : State) : LinkKept s.link s.linkWaits.link :=
  .of_eq rfl rfl rfl rfl rfl rfl rfl rfl rfl

theorem State.raise_kept (s : State) (e : Event) : LinkKept s.link (s.raise e).link :=
  .of_tells ((OnlyTells.refl s).raise e)

/-- A frame joins the buffer where there is room for it, and the link is not in LISTEN (R184). -/
theorem State.frameComplete_kept {s : State} (f : LinkFrame) (hmode : s.link.mode ≠ .listen) :
    LinkKept s.link (s.frameComplete f).link := by
  unfold State.frameComplete
  split
  next room =>
    constructor
    · rintro ⟨hhold, hfetch, _⟩
      exact ⟨hhold, hfetch, fun hl => absurd hl hmode⟩
    · rintro _ ⟨hcarried, _, hrest⟩
      exact ⟨hcarried, fun _ => by simp, hrest⟩
    · rintro ⟨hq, _⟩
      exact ⟨hq, by simp; omega⟩
  · exact s.raise_kept _

theorem State.linkByteOutside_kept (s : State) (b : Byte) : LinkKept s.link (s.linkByteOutside b).link := by
  unfold State.linkByteOutside
  split
  · exact .of_eq rfl rfl rfl rfl rfl rfl rfl rfl rfl
  · exact .refl _

theorem State.linkByteInside_kept {s : State} (received : List Byte) (b : Byte) (hmode : s.link.mode ≠ .listen) :
    LinkKept s.link (s.linkByteInside received b).link := by
  unfold State.linkByteInside
  split
  · exact s.linkWaits_kept.trans (s.linkWaits.raise_kept _)
  · split
    · exact s.linkWaits_kept.trans (State.frameComplete_kept _ hmode)
    · exact .of_eq rfl rfl rfl rfl rfl rfl rfl rfl rfl

/-- A link mode is selected in LISTEN, where no hold, fetch or report stands (R181). -/
theorem State.selectMode_kept {s : State} (m : LinkMode) (hm : m ≠ .listen) (hmode : s.link.mode = .listen) :
    LinkKept s.link (s.selectMode m).link := by
  constructor
  · rintro ⟨hhold, hfetch, _⟩
    simp only [hmode] at hhold hfetch
    exact ⟨fun h => by simpa using hhold h, fun h => by simpa using hfetch h, fun h => absurd h hm⟩
  · rintro ⟨_, _, hlisten⟩ ⟨hreply, hbuffer, hone, hfetch, _⟩
    obtain ⟨_, _, hfree⟩ := hlisten hmode
    refine ⟨hreply, hbuffer, hone, hfetch, fun _ ⟨r, hr⟩ => ?_⟩
    simp [State.selectMode, hfree] at hr
  · exact id

theorem State.linkByte_kept (s : State) (b : Byte) : LinkKept s.link (s.linkByte b).link := by
  unfold State.linkByte
  split
  next hmode =>
    unfold State.listenByte
    split_ifs
    · exact State.selectMode_kept _ (by simp) hmode
    · exact State.selectMode_kept _ (by simp) hmode
    · exact .refl _
  next hmode =>
    split
    · exact .refl _
    · split
      · exact s.linkByteOutside_kept b
      · split
        · exact (s.linkWaits_kept.trans (s.linkWaits.raise_kept _)).trans (State.linkByteOutside_kept _ b)
        · exact State.linkByteInside_kept _ b hmode

theorem State.linkBytes_kept (s : State) (bytes : List Byte) : LinkKept s.link (s.linkBytes bytes).link := by
  induction bytes generalizing s with
  | nil => exact .refl _
  | cons b bytes ih => exact (s.linkByte_kept b).trans (ih (s.linkByte b))

theorem State.receiveFrame_kept (s : State) (f : LinkFrame) : LinkKept s.link (s.receiveFrame f).link := by
  unfold State.receiveFrame
  split
  · exact .refl _
  · exact s.linkBytes_kept _

theorem State.bring_kept (s : State) (i : Instr) : LinkKept s.link (s.bring i).link := by
  unfold State.bring
  split
  · exact .refl _
  · split
    · exact s.receiveFrame_kept _
    · exact .refl _

/-! ### Replies -/

/-- A reply is made for a front frame that has not been carried out: no reply, fetch or report stands then that the
answer could meet (R184, R187). -/
theorem State.reply_kept {s : State} (r : Reply) (hmode : s.link.mode ≠ .listen) (hcarried : s.link.carriedOut = false)
    (hbuffer : s.link.buffer ≠ []) : LinkKept s.link (s.reply r).link := by
  constructor
  · rintro ⟨hhold, hfetch, _⟩
    exact ⟨hhold, hfetch, fun hl => absurd hl hmode⟩
  · rintro _ ⟨hout, _, _, _, hsingle⟩
    simp only [hcarried, Bool.false_eq_true, imp_false, not_or] at hout
    obtain ⟨_, hline, hfetch⟩ := hout
    exact ⟨fun _ => rfl, fun _ => hbuffer, fun ⟨_, hl⟩ => hline hl, fun h => absurd h hfetch, hsingle⟩
  · exact id

theorem State.waiting_link {s : State} {i : Instr} (h : s.waitingCommand = some i) :
    s.link.mode ≠ .listen ∧ s.link.carriedOut = false ∧ s.link.buffer ≠ [] := by
  obtain ⟨hmode, hcarried, _, f, rest, hbuffer, _⟩ := State.waitingCommand_eq_some.mp h
  exact ⟨hmode, hcarried, by simp [hbuffer]⟩

/-- A command that waits at the front is carried out and answered with the link's fitting kept, where its work at most
tells events. -/
theorem answered_kept_of_tells {s : State} {i : Instr} {c : Carried} (hw : s.waitingCommand = some i)
    (h : OnlyTells s c.state) (kind : Byte) : LinkKept s.link (c.answered kind).link := by
  obtain ⟨hm, hc, hb⟩ := State.waiting_link hw
  obtain ⟨hmode, _, _, hbuffer, _, _, hcarried⟩ := Link.fields_of_quiet h.quiet
  exact (LinkKept.of_tells h).trans (State.reply_kept _ (by rwa [hmode]) (by rwa [hcarried]) (by rwa [hbuffer]))

/-- The same where its work leaves the fitting's fields as they are. -/
theorem answered_kept_of_eq {s : State} {i : Instr} {c : Carried} (hw : s.waitingCommand = some i)
    (hkept : LinkKept s.link c.state.link) (hmode : c.state.link.mode = s.link.mode)
    (hcarried : c.state.link.carriedOut = s.link.carriedOut) (hbuffer : c.state.link.buffer = s.link.buffer)
    (kind : Byte) : LinkKept s.link (c.answered kind).link := by
  obtain ⟨hm, hc, hb⟩ := State.waiting_link hw
  exact hkept.trans (State.reply_kept _ (by rwa [hmode]) (by rwa [hcarried]) (by rwa [hbuffer]))

/-- HOLD REPORTS sets a hold in TWO-WIRE only (R188). -/
theorem carryHoldReports_kept {s : State} (x : BitVec 16) (hmode : s.link.mode ≠ .listen) :
    LinkKept s.link (carryHoldReports x s).state.link := by
  unfold carryHoldReports
  split
  · exact .refl _
  next hs =>
    have htwo : s.link.mode = .twoWire := by cases hm : s.link.mode <;> simp_all
    constructor
    · rintro ⟨_, hfetch, hlisten⟩
      exact ⟨fun _ => htwo, hfetch, hlisten⟩
    · exact fun _ => id
    · exact id

/-- FETCH REPORTS answered: the fetch stands from its reply on, in SINGLE-WIRE only (R187). -/
theorem carryFetchReports_kept {s : State} (n : Byte) (hw : s.waitingCommand = some (.fetchReports n)) (kind : Byte) :
    LinkKept s.link ((carryFetchReports n s).answered kind).link := by
  obtain ⟨hmode, hcarried, hbuffer⟩ := State.waiting_link hw
  unfold carryFetchReports
  split_ifs with hs
  · exact State.reply_kept _ hmode hcarried hbuffer
  · exact State.reply_kept _ hmode hcarried hbuffer
  · have hsingle : s.link.mode = .singleWire := by simpa using hs
    constructor
    · rintro ⟨hhold, _, _⟩
      exact ⟨hhold, fun _ => hsingle, fun hl => absurd hl hmode⟩
    · rintro _ ⟨hout, _, _, _, hreport⟩
      simp only [hcarried, Bool.false_eq_true, imp_false, not_or] at hout
      obtain ⟨_, hline, hfetch⟩ := hout
      have hnone : ∀ r, s.link.line ≠ .report r := fun r hr => hfetch (hreport hsingle ⟨r, hr⟩)
      exact ⟨fun _ => rfl, fun _ => hbuffer, fun ⟨_, hl⟩ => hline hl, fun _ r hr => absurd hr (hnone r),
        fun _ ⟨r, hr⟩ => absurd hr (hnone r)⟩
    · exact id

theorem carry_answered_kept {i : Instr} {carry : State → Carried} (h : carryOf i = some carry) {s : State}
    (hw : s.waitingCommand = some i) (kind : Byte) : LinkKept s.link ((carry s).answered kind).link := by
  cases hown : isLinkCommand i with
  | false => exact answered_kept_of_tells hw (carry_onlyTells h hown s) kind
  | true =>
    cases i with
    | setRate r =>
      cases h
      unfold carrySetRate
      split_ifs <;> exact answered_kept_of_eq hw (.of_eq rfl rfl rfl rfl rfl rfl rfl rfl rfl) rfl rfl rfl kind
    | statusGet | showReset =>
      cases h
      exact answered_kept_of_eq hw (.of_eq rfl rfl rfl rfl rfl rfl rfl rfl rfl) rfl rfl rfl kind
    | setNoticeMask x =>
      cases h
      unfold carrySetNoticeMask
      split_ifs <;> exact answered_kept_of_eq hw (.of_eq rfl rfl rfl rfl rfl rfl rfl rfl rfl) rfl rfl rfl kind
    | holdReports x =>
      cases h
      obtain ⟨hmode, _, _⟩ := State.waiting_link hw
      refine answered_kept_of_eq hw (carryHoldReports_kept x hmode) ?_ ?_ ?_ kind <;>
        unfold carryHoldReports <;> split <;> rfl
    | fetchReports n => cases h; exact carryFetchReports_kept n hw kind
    | _ => cases hown

/-! ### Sending -/

theorem replySendBegin_kept {s : State} {r : Reply} (h : s.link.reply = some r) :
    LinkKept s.link { s.link with line := .reply r, reply := none } := by
  constructor
  · rintro ⟨hhold, hfetch, hlisten⟩
    refine ⟨hhold, hfetch, fun hl => ?_⟩
    simp [h] at hlisten
    exact absurd hl hlisten
  · rintro _ ⟨hout, hbuffer, _, _, _⟩
    exact ⟨fun _ => hout (.inl (by simp [h])), hbuffer, by simp, by simp, by simp⟩
  · exact id

theorem Link.replySent_kept {l : Link} {r : Reply} (h : l.line = .reply r) : LinkKept l l.replySent := by
  have hmode (hlisten : l.mode = .listen → l.buffer = [] ∧ l.reply = none ∧ l.line = .free) : l.mode ≠ .listen := by
    simpa [h] using hlisten
  unfold Link.replySent
  constructor
  · rintro ⟨hhold, hfetch, hlisten⟩
    split_ifs <;> exact ⟨hhold, hfetch, fun hl => absurd hl (hmode hlisten)⟩
  · rintro _ ⟨hout, hbuffer, hone, _, _⟩
    have hnone : ¬l.reply.isSome := fun hr => hone ⟨hr, by simp [h, TransmitLine.isReply]⟩
    split_ifs with hleft
    · simpa [RepliesFit, Link.frameAnswered, TransmitLine.isReply, hleft] using hnone
    · refine ⟨fun _ => hout (.inr (.inr (Nat.pos_of_ne_zero hleft))), hbuffer, ?_, by simp, by simp⟩
      simp [TransmitLine.isReply]
  · rintro ⟨hq, hb⟩
    split_ifs
    · exact ⟨hq, by simp [Link.frameAnswered]; omega⟩
    · exact ⟨hq, hb⟩

theorem reportSendBegin_kept {l : Link} (r : Report) (h : l.mayReport = true) :
    LinkKept l { l with line := .report r } := by
  simp only [Link.mayReport, Bool.and_eq_true, decide_eq_true_eq] at h
  obtain ⟨⟨hfree, hreply⟩, hmay⟩ := h
  constructor
  · rintro ⟨hhold, hfetch, hlisten⟩
    refine ⟨hhold, hfetch, fun hl => ?_⟩
    simp [show l.mode = .listen from hl] at hmay
  · rintro _ ⟨hout, hbuffer, _, _, _⟩
    refine ⟨fun hx => hout ?_, hbuffer, by simp [TransmitLine.isReply], fun _ _ _ => hreply, fun hs _ => ?_⟩
    · simpa [TransmitLine.isReply, hfree] using hx
    · simpa [show l.mode = .singleWire from hs] using hmay
  · exact id

theorem State.tellOverflow_onlyTells (s : State) : OnlyTells s s.tellOverflow := by
  unfold State.tellOverflow
  split
  · refine ((OnlyTells.refl s).raise _).trans ⟨rfl, fun ⟨hq, _⟩ => ⟨hq, by simp⟩⟩
  · exact .refl s

/-- The report leaves the queue, and the frame of its fetch leaves the buffer with the last one (R186, R187). -/
theorem reportSent_kept {l m : Link} {r : Report} (h : l.line = .report r)
    (hm : m.quiet = { l with line := .free, queue := l.queue.tail }.quiet)
    (hq : l.queueOk → m.queueOk) : LinkKept l m.fetchedOne := by
  obtain ⟨hmode, hhold, hleft, hbuffer, hreply, hline, hcarried⟩ := Link.fields_of_quiet hm
  dsimp only at hmode hhold hleft hbuffer hreply hline hcarried
  unfold Link.fetchedOne
  constructor
  · rintro ⟨hh, hf, hlisten⟩
    have hnot : l.mode ≠ .listen := by simpa [h] using hlisten
    rw [← hmode, ← hhold] at hh
    rw [← hmode, ← hleft] at hf
    rw [← hmode] at hnot
    split_ifs with h0 h1
    · exact ⟨hh, hf, fun hl => absurd hl hnot⟩
    · exact ⟨hh, by simp [Link.frameAnswered], fun hl => absurd hl hnot⟩
    · exact ⟨hh, fun _ => hf (Nat.pos_of_ne_zero h0), fun hl => absurd hl hnot⟩
  · rintro _ ⟨hout, hb, _, hfetch, _⟩
    rw [← hreply, ← hcarried, ← hleft] at hout
    rw [← hbuffer, ← hcarried] at hb
    rw [← hleft, ← hreply] at hfetch
    split_ifs with h0 h1
    · exact ⟨fun hx => hout (.inl (by simpa [h0, hline, TransmitLine.isReply] using hx)), hb,
        by simp [hline, TransmitLine.isReply], by simp [hline], by simp [hline]⟩
    · simp [RepliesFit, Link.frameAnswered, hline, TransmitLine.isReply, hfetch (by omega) r h]
    · exact ⟨fun _ => hout (.inr (.inr (Nat.pos_of_ne_zero h0))), hb, by simp [hline, TransmitLine.isReply], by simp [hline],
        by simp [hline]⟩
  · rintro ⟨hqueue, hb⟩
    rw [← hbuffer] at hb
    split_ifs
    · exact ⟨hq hqueue, hb⟩
    · exact ⟨hq hqueue, by simp [Link.frameAnswered]; omega⟩
    · exact ⟨hq hqueue, hb⟩

theorem reportHoldExpiry_kept (l : Link) : LinkKept l { l with hold := none } :=
  ⟨fun ⟨_, hfetch, hlisten⟩ => ⟨by simp, hfetch, hlisten⟩, fun _ => id, id⟩

theorem Link.ticked_kept (l : Link) : LinkKept l l.ticked :=
  ⟨fun ⟨hhold, hfetch, hlisten⟩ => ⟨by simpa [Link.ticked] using hhold, hfetch, hlisten⟩, fun _ => id, id⟩

theorem Link.reset_storesOk : Link.reset.StoresOk := by simp [Link.StoresOk, Link.queueOk, Link.reset]

theorem Link.reset_fits : LinkFits Link.reset ∧ RepliesFit Link.reset := by
  simp [LinkFits, RepliesFit, Link.reset, TransmitLine.isReply]

theorem Link.reset_kept (l : Link) : LinkKept l Link.reset :=
  ⟨fun _ => Link.reset_fits.1, fun _ _ => Link.reset_fits.2, fun _ => Link.reset_storesOk⟩

theorem State.showReset_kept (s : State) : LinkKept s.link s.showReset.link := by
  have habandon : OnlyTells s s.abandonForReset := ⟨by simp, fun hq => by simp [hq]⟩
  exact (LinkKept.of_tells habandon).trans (.of_eq rfl rfl rfl rfl rfl rfl rfl rfl rfl)

/-! ### Every row -/

/-- Every row keeps the fitting of the link and the limits of its stores. -/
theorem exec_linkKept (i : Instr) (s : State) : ∃ t, exec i s = .next t ∧ LinkKept s.link t.link := by
  cases hcarry : carryOf i with
  | some carry =>
    rw [exec_of_carry hcarry]
    refine desk_keeps (P := fun u => LinkKept s.link u.link) (.refl _) (fun _ => s.bring_kept i) fun u hw hu => ?_
    exact hu.trans (carry_answered_kept hcarry hw _)
  | none =>
    cases hrow : isLinkRow i with
    | false =>
      obtain ⟨t, ht, htells⟩ := exec_onlyTells hcarry hrow s
      exact ⟨t, ht, .of_tells htells⟩
    | true =>
      cases i with
      | hardReset => exact ⟨_, rfl, s.link.reset_kept⟩
      | modeByte b | linkByteReceived b => exact ⟨_, rfl, s.linkByte_kept b⟩
      | commandFrameComplete f => exact ⟨_, rfl, s.receiveFrame_kept f⟩
      | linkFrameAbandoned n =>
        refine ⟨_, rfl, ?_⟩
        split
        · exact .refl _
        · exact s.linkBytes_kept _
      | linkFrameGap =>
        refine ⟨_, rfl, ?_⟩
        repeat' split
        · exact s.linkWaits_kept.trans (s.linkWaits.raise_kept _)
        all_goals exact .refl _
      | unknownKind f =>
        refine ⟨_, rfl, ?_⟩
        have hbring : LinkKept s.link (s.bringFrame f).link := by
          unfold State.bringFrame
          split
          · exact .refl _
          · exact s.receiveFrame_kept f
        split
        · split
          next hfront =>
            obtain ⟨hmode, hcarried, _, rest, hbuffer⟩ := State.frontFrame_eq_some.mp hfront
            exact hbring.trans (State.reply_kept _ hmode hcarried (by simp [hbuffer]))
          · exact hbring
        · exact .refl _
      | showResetExecute =>
        refine ⟨_, rfl, ?_⟩
        split
        · exact s.showReset_kept
        · exact .refl _
      | replySendBegin =>
        refine ⟨_, rfl, ?_⟩
        split
        next r hr =>
          split
          · exact replySendBegin_kept hr
          · exact .refl _
        · exact .refl _
      | replySent =>
        refine ⟨_, rfl, ?_⟩
        split
        next r hr => exact Link.replySent_kept hr
        all_goals exact .refl _
      | reportSendBegin =>
        refine ⟨_, rfl, ?_⟩
        split
        next r q hq =>
          split
          next hmay => exact reportSendBegin_kept r hmay
          · exact .refl _
        · exact .refl _
      | reportSent =>
        refine ⟨_, rfl, ?_⟩
        split
        next r hr =>
          have htells := (s.setLink { s.link with line := .free, queue := s.link.queue.tail }).tellOverflow_onlyTells
          refine reportSent_kept hr htells.quiet fun ⟨hq, hd⟩ => htells.queueOk ⟨?_, hd⟩
          simp only [State.setLink_link, List.length_tail]
          omega
        all_goals exact .refl _
      | reportHoldExpiry =>
        refine ⟨_, rfl, ?_⟩
        split
        · exact reportHoldExpiry_kept _
        · exact .refl _
      | tick levels => exact ⟨_, rfl, s.link.ticked_kept⟩
      | _ => cases hrow

/-- Settles O10: the queue of waiting steps is not the link's, and `exec_linkKept` carries the fitting over a row. -/
theorem linkKeepsFitting : Obligations.LinkKeepsFitting := by
  intro s t hfits hst
  refine step_keeps (P := fun u => LinkFits u.link ∧ (RepliesFit s.link → RepliesFit u.link)) (fun _ _ h => h)
    (fun i u ⟨hu, hreplies⟩ => ?_) ⟨hfits, id⟩ hst
  obtain ⟨v, hv, hkept⟩ := exec_linkKept i u
  exact ⟨v, hv, hkept.fits hu, fun h => hkept.replies hu (hreplies h)⟩

end Sys2Proof.Machine
end

section
/-! The round clock, the serial and the tie pointer along every operation of a round, the intake FIFO along every row, and
with the link's stores the limits of all stores (R25, R72, R184, R191). -/

namespace Sys2Proof.Machine

/-- A part is outside the reach of a row where the reach, evaluated, lacks it. -/
theorem not_mem_reach {p : Part} {i : Instr} (h : (reach i).elem p = false) : p ∉ reach i := by
  simpa using h

/-! ### The engine after the smallest operations -/

@[simp] theorem State.mapContext_engine (s : State) (f : Context → Context) :
    (s.mapContext f).engine = { s.engine with round := s.engine.round.map f } := rfl

@[simp] theorem State.enter_engine (s : State) (x : EngineState) :
    (s.enter x).engine = { s.engine with state := x } := rfl

@[simp] theorem State.cueAt_engine (s : State) (j : Fin 128) :
    (s.cueAt j).engine = { s.engine with state := .cued } := rfl

@[simp] theorem State.lockTeam_engine (s : State) (t : Nat) (reason : LockReason) :
    (s.lockTeam t reason).engine = { s.engine with round := s.engine.round.map fun c => c.lock t reason } := rfl

@[simp] theorem State.clearFloor_engine (s : State) (t : Nat) :
    (s.clearFloor t).engine =
      { s.engine with round := s.engine.round.map fun c => { c with holder := none, answerLeft := none } } := rfl

/-! ### What keeps the clock, the serial and the tie pointer -/

/-- From `s` to `t` the round clock, the serial and the tie pointer stay. -/
structure SameClocks (s t : State) : Prop where
  clock : t.engine.clock = s.engine.clock
  serial : t.engine.serial = s.engine.serial
  tieStart : t.engine.tieStart = s.engine.tieStart

theorem SameClocks.refl (s : State) : SameClocks s s := ⟨rfl, rfl, rfl⟩

theorem SameClocks.trans {s t u : State} (h : SameClocks s t) (k : SameClocks t u) : SameClocks s u :=
  ⟨k.clock.trans h.clock, k.serial.trans h.serial, k.tieStart.trans h.tieStart⟩

theorem SameClocks.of_engine {s t : State} (h : t.engine = s.engine) : SameClocks s t := by
  constructor <;> rw [h]

theorem State.enter_clocks (s : State) (x : EngineState) : SameClocks s (s.enter x) := ⟨rfl, rfl, rfl⟩

theorem State.mapContext_clocks (s : State) (f : Context → Context) : SameClocks s (s.mapContext f) := ⟨rfl, rfl, rfl⟩

theorem State.followFrom_clocks (s : State) (k : Fin 128) : SameClocks s (s.followFrom k) := by
  rcases s.followFrom_engine k with h | h <;> constructor <;> rw [h]

theorem State.examine_clocks (s : State) (k : Fin 128) : SameClocks s (s.examine k) := by
  unfold State.examine; split <;> exact ⟨rfl, rfl, rfl⟩

theorem State.reexamine_clocks (s : State) : SameClocks s s.reexamine := by
  unfold State.reexamine; split
  · exact s.followFrom_clocks _
  all_goals exact s.examine_clocks _

theorem State.close_clocks (s : State) (o : RoundOutcome) : SameClocks s (s.close o) := by
  obtain ⟨x, _, h⟩ := s.close_engine o
  constructor <;> rw [h]

theorem State.closeWon_clocks (s : State) (w : Nat) : SameClocks s (s.closeWon w) :=
  .trans (t := s.closeRound .won (some w)) ⟨rfl, rfl, rfl⟩
    ((State.followFrom_clocks _ _).trans (.of_engine (s.closeWon_engine w)))

theorem State.grant_clocks (s : State) (c : QueuedClaim) (rest : List QueuedClaim) : SameClocks s (s.grant c rest) :=
  ⟨rfl, rfl, rfl⟩

theorem State.testGrant_clocks (s : State) : SameClocks s s.testGrant := by
  rcases s.testGrant_cases with h | ⟨c, rest, _, _, h⟩ | ⟨_, _, h⟩ <;> rw [h]
  · exact .refl s
  · exact s.grant_clocks c rest
  · exact s.close_clocks _

/-! ### Claims -/

theorem State.settleFromOpen_clocks (s : State) : SameClocks s s.settleFromOpen := by
  unfold State.settleFromOpen
  split_ifs
  · exact s.enter_clocks _
  · exact s.mapContext_clocks _
  · exact .refl s

theorem State.admitClaim_clocks (s : State) (o : Offer) : SameClocks s (s.admitClaim o) :=
  .trans (t := (s.place o .admitted ⟨o.team, o.stamp.toNat, o.source, s.nextNumber⟩ none).mapContext
    fun x => { x with claimsAdmitted := s.nextNumber }) ⟨rfl, rfl, rfl⟩
    ((State.settleFromOpen_clocks _).trans (State.testGrant_clocks _))

theorem State.replace_clocks (s : State) (o : Offer) : SameClocks s (s.replace o) := by
  unfold State.replace
  split
  · exact .trans (.of_engine (by simp)) (State.testGrant_clocks _)
  · exact .refl s

theorem State.falseStartLock_clocks (s : State) (o : Offer) : SameClocks s (s.falseStartLock o) := by
  have h : SameClocks s (((s.tellRefusal o .falseStartLocked).lockTeam o.team .falseStart).withdrawLocked o.team) := by
    constructor <;> simp
  unfold State.falseStartLock
  dsimp only
  split
  · exact h.trans (State.testGrant_clocks _)
  · exact h

theorem State.falseStartPenalise_clocks (s : State) (o : Offer) : SameClocks s (s.falseStartPenalise o) := by
  unfold State.falseStartPenalise
  dsimp only
  split
  · refine .trans ?_ (State.testGrant_clocks _)
    split_ifs <;> constructor <;> simp
  · split_ifs <;> constructor <;> simp

theorem State.offer_clocks (s : State) (o : Offer) : SameClocks s (s.offer o) := by
  unfold State.offer
  split
  · exact s.admitClaim_clocks o
  · exact s.replace_clocks o
  · exact s.falseStartLock_clocks o
  · exact s.falseStartPenalise_clocks o
  all_goals exact .of_engine (by simp)

/-! ### Time called, verdicts and rebounds -/

theorem State.callTime_clocks (s : State) : SameClocks s s.callTime := by
  refine .trans ?_ (State.testGrant_clocks _)
  constructor <;> simp

theorem State.judgeRight_clocks (s : State) (h : Holder) : SameClocks s (s.judgeRight h) := by
  refine .trans ?_ (State.closeWon_clocks _ _)
  constructor <;> simp

theorem State.reboundQueue_clocks (s : State) : SameClocks s s.reboundQueue := by
  unfold State.reboundQueue
  split_ifs
  · exact (s.enter_clocks _).trans (State.testGrant_clocks _)
  · exact s.close_clocks _
  · exact s.enter_clocks _

theorem State.reboundReopen_clocks (s : State) : SameClocks s s.reboundReopen := by
  unfold State.reboundReopen
  dsimp only
  split_ifs
  · exact .trans (.of_engine (by simp)) (State.close_clocks _ _)
  · constructor <;> simp

theorem State.afterWrong_clocks (s : State) (f : Follows) : SameClocks s (s.afterWrong f) := by
  cases f with
  | closeWon => exact .refl s
  | closeNoWinner => exact s.close_clocks _
  | reboundQueue => exact s.reboundQueue_clocks
  | reboundReopen => exact s.reboundReopen_clocks

theorem State.judgeWrong_clocks (s : State) (h : Holder) (v : Verdict) : SameClocks s (s.judgeWrong h v) := by
  refine .trans ?_ (State.afterWrong_clocks _ _)
  split_ifs <;> constructor <;> simp [State.lockWrong]

/-! ### The tally -/

theorem State.payShares_clocks (s : State) (y : Tally) : SameClocks s (s.payShares y) :=
  .trans (.of_engine (by simp)) (State.close_clocks _ _)

theorem State.completeChoice_clocks (s : State) (y : Tally) : SameClocks s (s.completeChoice y) := by
  unfold State.completeChoice
  split
  · exact .trans (.of_engine (by simp)) (State.payShares_clocks _ _)
  · constructor <;> simp

theorem State.completeTally_clocks (s : State) : SameClocks s s.completeTally := by
  unfold State.completeTally
  dsimp only
  refine .trans (t := s.mapContext fun c => { c with closeMark := none }) ⟨rfl, rfl, rfl⟩ ?_
  split
  · exact State.completeChoice_clocks _ _
  · exact .trans (.of_engine (by simp)) (State.close_clocks _ _)

theorem State.testTally_clocks (s : State) : SameClocks s s.testTally := by
  unfold State.testTally
  repeat' split
  · exact s.completeTally_clocks
  all_goals exact .refl s

theorem State.enterTallying_clocks (s : State) : SameClocks s s.enterTallying := by
  unfold State.enterTallying
  refine .trans ?_ (State.testTally_clocks _)
  constructor <;> simp

theorem State.keyTally_clocks (s : State) (k : OptKey) : SameClocks s (s.keyTally k) := by
  unfold State.keyTally
  split
  · exact .trans (.of_engine (by simp)) (State.payShares_clocks _ _)
  · exact s.close_clocks _

/-! ### The engine's timers and commands -/

theorem State.tellSecond_clocks (s : State) (n : Nat) : SameClocks s (s.tellSecond n) := by
  unfold State.tellSecond
  dsimp only
  split <;> constructor <;> simp

theorem State.roundTimeUp_clocks (s : State) : SameClocks s s.roundTimeUp := by
  unfold State.roundTimeUp
  split
  · exact s.callTime_clocks
  · exact .trans (.of_engine (by simp)) (State.enterTallying_clocks _)

theorem State.answerTimeUp_clocks (s : State) (h : Holder) : SameClocks s (s.answerTimeUp h) :=
  .trans (.of_engine (by simp)) (State.judgeWrong_clocks _ _ _)

theorem State.judgeBy_clocks (s : State) (h : Holder) (right : Bool) : SameClocks s (s.judgeBy h right) := by
  cases right
  · exact s.judgeWrong_clocks h .wrong
  · exact s.judgeRight_clocks h

theorem State.pause_clocks (s : State) : SameClocks s s.pause := ⟨rfl, rfl, rfl⟩

theorem State.resume_clocks (s : State) : SameClocks s s.resume := by
  unfold State.resume
  split <;>
  · refine .trans ?_ (State.testGrant_clocks _)
    exact ⟨rfl, rfl, rfl⟩

theorem State.abandon_clocks (s : State) : SameClocks s s.abandon :=
  .trans (.of_engine (by simp)) (State.close_clocks _ _)

/-! ### Presses and takes -/

theorem State.acceptPress_clocks (s : State) (n : Nat) : SameClocks s (s.acceptPress n) := by
  unfold State.acceptPress
  dsimp only
  split
  · refine .trans (t := s.setLineAt n { s.lineAt n with state := .pressed, count := 0 }) ⟨rfl, rfl, rfl⟩ ?_
    unfold State.offerPress
    split_ifs
    · exact .refl _
    · exact .refl _
    · exact State.offer_clocks _ _
  · exact ⟨rfl, rfl, rfl⟩

theorem State.dispatch_clocks (s : State) (e : FifoEntry) (p t : Option Nat) (a : Nat) :
    SameClocks s (s.dispatch e p t a) := by
  unfold State.dispatch State.dispatchBuzz
  repeat' split
  · exact s.offer_clocks _
  · exact .refl s
  · exact .refl s
  · exact .of_engine (by simp)
  · exact .refl s

theorem State.handleKey_clocks (s : State) (e : FifoEntry) (p t : Option Nat) : SameClocks s (s.handleKey e p t) := by
  unfold State.handleKey State.checkRound
  repeat' split
  any_goals exact .refl s
  · exact .of_engine rfl
  · exact .of_engine rfl
  · exact s.dispatch_clocks e p t _

theorem State.handle_clocks (s : State) (e : FifoEntry) : SameClocks s (s.handle e) := by
  unfold State.handle State.handleRoster
  repeat' split
  · exact .of_engine rfl
  · exact .trans (.of_engine (by simp)) (State.handleKey_clocks _ e _ _)
  · exact s.handleKey_clocks e none none
  · exact .of_engine rfl

theorem State.completeTake_clocks (s : State) (e : FifoEntry) : SameClocks s (s.completeTake e) := by
  unfold State.completeTake
  refine (s.handle_clocks e).trans (.trans ?_ ((State.testGrant_clocks _).trans (State.testTally_clocks _)))
  exact .of_engine (by simp)

/-! ### The clock's limit -/

/-- The clock is at its maximum at most (R25). -/
def ClockOk (s : State) : Prop := s.engine.clock ≤ clockMax

theorem ClockOk.of_clocks {s t : State} (h : ClockOk s) (k : SameClocks s t) : ClockOk t := by
  unfold ClockOk; rw [k.clock]; exact h

theorem ClockOk.of_engine {s t : State} (h : ClockOk s) (k : t.engine = s.engine) : ClockOk t :=
  h.of_clocks (.of_engine k)

/-- The work of a command sets the clock to 0, at a start, or leaves it. -/
theorem carry_clockOk {i : Instr} {carry : State → Carried} (h : carryOf i = some carry) (hreach : Part.engine ∈ reach i)
    {s : State} (hs : ClockOk s) : ClockOk (carry s).state := by
  cases i with
  | takeBack k =>
    cases h; unfold carryTakeBack
    repeat' split
    all_goals exact hs
  | setPointer k =>
    cases h; unfold carrySetPointer
    repeat' split
    · exact hs
    · exact hs
    · exact hs.of_clocks (s.examine_clocks _)
  | go =>
    cases h; unfold carryGo
    split
    · exact hs.of_clocks s.reexamine_clocks
    · exact hs
  | startRound =>
    cases h; unfold carryStartRound
    split_ifs
    · exact hs
    · exact hs
    · exact Nat.zero_le _
  | openRound =>
    cases h; unfold carryOpenRound
    split <;> exact hs
  | closeRound =>
    cases h; unfold carryCloseRound
    split
    · exact hs.of_clocks s.enterTallying_clocks
    · exact hs
  | judge v =>
    cases h; unfold carryJudge
    repeat' split
    any_goals exact hs
    exact hs.of_clocks (s.judgeBy_clocks _ _)
  | revealKey o =>
    cases h; unfold carryRevealKey
    repeat' split
    any_goals exact hs
    exact hs.of_clocks (s.keyTally_clocks _)
  | pause =>
    cases h; unfold carryPause
    split <;> exact hs
  | resume =>
    cases h; unfold carryResume
    split
    · exact hs.of_clocks s.resume_clocks
    · exact hs
  | abandon =>
    cases h; unfold carryAbandon
    split
    · exact hs.of_clocks s.abandon_clocks
    · exact hs
  | _ => first | exact absurd hreach (not_mem_reach rfl) | cases h

theorem exec_clockOk (i : Instr) {s : State} (hs : ClockOk s) : ∃ t, exec i s = .next t ∧ ClockOk t := by
  by_cases hreach : Part.engine ∈ reach i
  case neg =>
    obtain ⟨t, ht, hframe⟩ := exec_frame i s
    exact ⟨t, ht, hs.of_engine (hframe.engine hreach)⟩
  cases hcarry : carryOf i with
  | some carry =>
    rw [exec_of_carry hcarry]
    refine desk_keeps hs (fun h => h.of_engine (by simp)) fun u _ hu => ?_
    exact (carry_clockOk hcarry hreach hu).of_engine (by simp)
  | none =>
    cases i with
    | hardReset => exact ⟨_, rfl, Nat.zero_le _⟩
    | showResetExecute =>
      refine ⟨_, rfl, ?_⟩
      split
      · exact Nat.zero_le _
      · exact hs
    | readingTimerExpiry =>
      refine ⟨_, rfl, ?_⟩
      split <;> exact hs
    | roundTimerSecond =>
      refine ⟨_, rfl, ?_⟩
      repeat' split
      · exact hs.of_clocks (s.tellSecond_clocks _)
      all_goals exact hs
    | roundTimerExpiry =>
      refine ⟨_, rfl, ?_⟩
      split
      · exact hs.of_clocks s.roundTimeUp_clocks
      · exact hs
    | answerTimerExpiry =>
      refine ⟨_, rfl, ?_⟩
      repeat' split
      · exact hs.of_clocks (s.answerTimeUp_clocks _)
      all_goals exact hs
    | roundClockHold =>
      refine ⟨_, rfl, ?_⟩
      split
      · exact hs.of_clocks s.testGrant_clocks
      · exact hs
    | settleDeadlineReached => exact ⟨_, rfl, hs.of_clocks s.testGrant_clocks⟩
    | linePressAccepted n =>
      refine ⟨_, rfl, ?_⟩
      split
      · exact hs.of_clocks (s.acceptPress_clocks n)
      · exact hs
    | takeComplete =>
      refine ⟨_, rfl, ?_⟩
      repeat' split
      · exact hs.of_clocks (s.completeTake_clocks _)
      all_goals exact hs
    | tick levels =>
      refine ⟨_, rfl, ?_⟩
      simp only [ClockOk, State.ticked_engine, State.engineTicked]
      split
      · exact bump_le _ _
      · exact hs
    | _ => first | exact absurd hreach (not_mem_reach rfl) | cases hcarry

/-! ### The intake FIFO -/

/-- The FIFO holds 32 entries at most (R72). -/
def FifoOk (s : State) : Prop := s.intake.fifo.length ≤ fifoLimit

@[simp] theorem State.countRefused_fifo (s : State) (r : Nat) : (s.countRefused r).intake.fifo = s.intake.fifo := by
  unfold State.countRefused; split <;> rfl

@[simp] theorem State.badFrame_fifo (s : State) (x : BadFrameReason) (r : Option Byte) :
    (s.badFrame x r).intake.fifo = s.intake.fifo := by
  unfold State.badFrame; split <;> simp

@[simp] theorem State.runt_fifo (s : State) (received : List Byte) : (s.runt received).intake.fifo = s.intake.fifo := by
  simp [State.runt, State.padWaits]

@[simp] theorem State.overrunDrop_fifo (s : State) (r : Nat) : (s.overrunDrop r).intake.fifo = s.intake.fifo := by
  unfold State.overrunDrop; dsimp only; split <;> simp

@[simp] theorem State.padByteOutside_fifo (s : State) (b : Byte) : (s.padByteOutside b).intake.fifo = s.intake.fifo := by
  unfold State.padByteOutside; split <;> rfl

theorem State.padFrame_fifoOk {s : State} (f : PadFrame) (hs : FifoOk s) : FifoOk (s.padFrame f) := by
  unfold State.padFrame
  split
  · simpa [FifoOk] using hs
  · unfold State.arrive
    split
    next room => simpa [FifoOk, State.countAccepted, State.setReceiverAt] using room
    · simpa [FifoOk] using hs

theorem State.padByte_fifoOk {s : State} (b : Byte) (hs : FifoOk s) : FifoOk (s.padByte b) := by
  unfold State.padByte
  repeat' split
  · simpa [FifoOk] using hs
  · simpa [FifoOk] using hs
  · unfold State.padByteInside
    split
    · exact State.padFrame_fifoOk _ hs
    · exact hs

theorem State.padBytes_fifoOk {s : State} (bytes : List Byte) (hs : FifoOk s) : FifoOk (bytes.foldl State.padByte s) := by
  induction bytes generalizing s with
  | nil => exact hs
  | cons b bytes ih => exact ih (State.padByte_fifoOk b hs)

/-- The handling of an entry leaves the FIFO as it is (R75). -/
@[simp] theorem State.handleKey_fifo (s : State) (e : FifoEntry) (p t : Option Nat) :
    (s.handleKey e p t).intake.fifo = s.intake.fifo := by
  unfold State.handleKey State.checkRound
  repeat' split
  all_goals simp

@[simp] theorem State.handle_fifo (s : State) (e : FifoEntry) : (s.handle e).intake.fifo = s.intake.fifo := by
  unfold State.handle State.handleRoster
  repeat' split
  all_goals simp [State.updateRoster, Intake.setRosterAt]

theorem State.completeTake_fifo (s : State) (e : FifoEntry) :
    (s.completeTake e).intake.fifo = s.intake.fifo.tail := by
  simp [State.completeTake, Intake.pop]

/-- The work of a command leaves the FIFO as it is. -/
theorem carry_fifo {i : Instr} {carry : State → Carried} (h : carryOf i = some carry) (hreach : Part.intake ∈ reach i)
    (s : State) : (carry s).state.intake.fifo = s.intake.fifo := by
  cases i with
  | setReceiver | enroll | withdraw | move | clearRoster | setGuestMap =>
    cases h
    simp only [carrySetReceiver, carryEnroll, carryWithdraw, carryMove, carryClearRoster, carrySetGuestMap,
      Intake.setRosterAt, State.setReceiverAt]
    repeat' split
    all_goals rfl
  | _ => first | exact absurd hreach (not_mem_reach rfl) | cases h

theorem exec_fifoOk (i : Instr) {s : State} (hs : FifoOk s) : ∃ t, exec i s = .next t ∧ FifoOk t := by
  by_cases hreach : Part.intake ∈ reach i
  case neg =>
    obtain ⟨t, ht, hframe⟩ := exec_frame i s
    exact ⟨t, ht, by unfold FifoOk; rw [hframe.intake hreach]; exact hs⟩
  cases hcarry : carryOf i with
  | some carry =>
    rw [exec_of_carry hcarry]
    refine desk_keeps hs (fun h => by simpa [FifoOk] using h) fun u _ hu => ?_
    simpa [FifoOk, carry_fifo hcarry hreach] using hu
  | none =>
    cases i with
    | hardReset => exact ⟨_, rfl, Nat.zero_le _⟩
    | showResetExecute =>
      refine ⟨_, rfl, ?_⟩
      split
      · exact Nat.zero_le _
      · exact hs
    | padFrameArrival f => exact ⟨_, rfl, State.padBytes_fifoOk _ hs⟩
    | padByteReceived b => exact ⟨_, rfl, State.padByte_fifoOk b hs⟩
    | padRunt =>
      refine ⟨_, rfl, ?_⟩
      repeat' split
      all_goals simpa [FifoOk] using hs
    | takeComplete =>
      refine ⟨_, rfl, ?_⟩
      repeat' split
      · have hle : s.intake.fifo.length ≤ fifoLimit := hs
        simp only [FifoOk, State.completeTake_fifo, List.length_tail]
        omega
      all_goals exact hs
    | tick levels =>
      refine ⟨_, rfl, ?_⟩
      have hfifo : (s.ticked levels).intake.fifo = s.intake.fifo := by
        simp only [State.ticked, State.setLink_intake, State.setBoard_intake, State.setIntake_intake, Intake.ticked]
        split <;> rfl
      unfold FifoOk
      rw [hfifo]
      exact hs
    | _ => first | exact absurd hreach (not_mem_reach rfl) | cases hcarry

/-! ### All stores -/

theorem withinCapacity_iff (s : State) : WithinCapacity s ↔ ClockOk s ∧ FifoOk s ∧ s.link.StoresOk := by
  unfold WithinCapacity ClockOk FifoOk Link.StoresOk Link.queueOk
  tauto

/-- Settles O4: the clock, the FIFO and the link's stores are each kept by every row. -/
theorem storesKeepWithinCapacity : Obligations.StoresKeepWithinCapacity := by
  intro s t hs hst
  refine step_keeps (P := WithinCapacity) (fun _ _ h => h) (fun i u hu => ?_) hs hst
  obtain ⟨hclock, hfifo, hlink⟩ := (withinCapacity_iff u).mp hu
  obtain ⟨v, hv, hclock'⟩ := exec_clockOk i hclock
  obtain ⟨v₁, hv₁, hfifo'⟩ := exec_fifoOk i hfifo
  obtain ⟨v₂, hv₂, hkept⟩ := exec_linkKept i u
  obtain rfl : v = v₁ := by rw [hv] at hv₁; cases hv₁; rfl
  obtain rfl : v = v₂ := by rw [hv] at hv₂; cases hv₂; rfl
  exact ⟨v, hv, (withinCapacity_iff v).mpr ⟨hclock', hfifo', hkept.stores hlink⟩⟩

end Sys2Proof.Machine
end

section
/-! The moves of a round: the changes that the rows of the table make to the list, the engine and the arbiter, each with
what holds when it is made. Every row is a chain of moves, so an invariant of those three units is kept by every row once
it is kept by every move. -/

namespace Sys2Proof.Machine

/-! ### Moves -/

/-- The list, the engine and the arbiter are the same in two states. -/
structure SameRound (s t : State) : Prop where
  list : t.list = s.list
  engine : t.engine = s.engine
  arbiter : t.arbiter = s.arbiter

/-- Two contexts agree in all that the fitting of the engine, the list and the claim queue reads. -/
structure Context.Agrees (c d : Context) : Prop where
  slot : d.slot = c.slot
  kind : d.kind = c.kind
  openTime : d.openTime = c.openTime
  timeCalled : d.timeCalled = c.timeCalled
  expiryStamp : d.expiryStamp = c.expiryStamp
  holder : d.holder = c.holder
  locks : d.locks = c.locks
  settleDue : d.settleDue = c.settleDue

/-- A claim that has passed the admission checks in a BUZZ round (R93). -/
structure State.Claimable (s : State) (c : QueuedClaim) : Prop where
  team : isTeamNumber c.team
  live : s.live = true
  kind : s.context.kind = .buzz
  phase : s.phase ≠ .reading
  free : s.context.lockOf c.team = none
  offFloor : s.context.holder.map Holder.team ≠ some c.team
  opened : ∃ o, s.context.openTime = some o ∧ o ≤ c.stamp
  inTime : ∀ e, s.context.timeCalled = true → s.context.expiryStamp = some e → c.stamp < e

/-- The context of a round on which time is called at a clock value (R37). -/
def Context.timeUp (c : Context) (clock : Nat) : Context :=
  { c with timeCalled := true, expiryStamp := some clock, lastSecond := some 0 }

/-- The changes that the rows make to the list, the engine and the arbiter, and their chains. -/
inductive Moves : State → State → Prop
  | same {s t : State} (h : SameRound s t) : Moves s t
  | trans {s t u : State} (h : Moves s t) (k : Moves t u) : Moves s u
  | reset {s t : State} (hlength : s.list.slots.length = 128 → t.list.slots.length = 128) (hpark : t.list.park.isSome)
      (hstate : t.engine.state = .idle) (hremembered : t.engine.remembered = none) (hround : t.engine.round = none)
      (hqueue : t.arbiter.queue = []) : Moves s t
  /-- A slot is written: the current slot only with an owner that lets it stay current. -/
  | slot {s : State} (k : Fin 128) (x : Slot)
      (h : (s.slotAt k).owner = .engine → s.engine.state ≠ .idle → s.list.pointer = k → x.owner = .engine) :
      Moves s (s.setSlot k x)
  | park {s u : State} (hlive : s.live = false) (hlength : u.list.slots.length = s.list.slots.length)
      (hengine : u.engine = s.engine) (harbiter : u.arbiter = s.arbiter) (k : Fin 128) (reason : ParkReason)
      (basis : ParkBasis) : Moves s (u.parkAt k reason basis)
  | cue {s : State} (hlive : s.live = false) (j : Fin 128) (howner : (s.slotAt j).owner = .engine) : Moves s (s.cueAt j)
  | start {s : State} (h : s.engine.state = .cued) : Moves s s.start
  | openRound {s : State} (h : s.engine.state = .reading) : Moves s s.openRound
  | context {s : State} (clock : Nat) (f : Context → Context) (hf : ∀ c : Context, c.Agrees (f c)) :
      Moves s (s.setEngine { s.engine with clock := clock, round := s.engine.round.map f })
  | pause {s : State} (h : s.engine.state.pausable) : Moves s s.pause
  | resume {s : State} (h : s.engine.state = .paused) (hdue : ¬(s.phase = .opened ∧ s.context.settleDue)) :
      Moves s s.unpause
  | resumeDue {s : State} (h : s.engine.state = .paused) (hphase : s.phase = .opened) (hdue : s.context.settleDue) :
      Moves s s.unpause.settleNow
  /-- A close and its walk, from any engine and queue over the same list. -/
  | close {s u : State} (hlist : u.list = s.list) (o : RoundOutcome) (w : Option Nat) (k : Fin 128) :
      Moves s ((u.closeRound o w).followFrom k)
  | grant {s : State} (c : QueuedClaim) (rest : List QueuedClaim) (h : s.engine.state = .settling)
      (hqueue : s.arbiter.queue = c :: rest) : Moves s (s.grant c rest)
  | enqueue {s : State} (c : QueuedClaim) (h : s.Claimable c) : Moves s (s.setQueue (s.queueWith c)).settleFromOpen
  | replace {s : State} (c old : QueuedClaim) (h : s.Claimable c) (hold : s.arbiter.claimOf c.team = some old) :
      Moves s (s.setQueue (s.queueWith c))
  | bar {s : State} (n : Nat) (reason : LockReason) (hn : isTeamNumber n) :
      Moves s ((s.lockTeam n reason).setQueue (withoutTeam s.arbiter.queue n))
  | callTime {s : State} (h : s.engine.state = .opened ∨ s.engine.state = .settling) (hkind : s.context.kind = .buzz) :
      Moves s ((s.mapContext fun c => c.timeUp s.engine.clock).enter .settling).withdrawLate
  | rebound {s : State} (h : Holder) (v : Verdict) (hfloor : s.engine.state = .floor) (hholder : s.context.holder = some h)
      (a : Arbiter) (x : EngineState)
      (hx : (x = .opened ∧ a.queue = []) ∨ (x = .settling ∧ a.queue = s.arbiter.queue)) :
      Moves s (((s.lockWrong h v).setArbiter a).enter x)
  | toTally {s : State} (h : s.engine.state = .opened ∨ s.engine.state = .settling) (hkind : s.context.kind ≠ .buzz) :
      Moves s (s.enter .tallying)
  | toAwaitKey {s : State} (h : s.engine.state = .tallying) (hkind : s.context.kind = .choice) :
      Moves s (s.enter .awaitKey)

theorem SameRound.refl (s : State) : SameRound s s := ⟨rfl, rfl, rfl⟩

theorem Moves.refl (s : State) : Moves s s := .same (.refl s)

/-- A chain of moves, the other units of its last state being of no account. -/
theorem Moves.then_same {s t u : State} (h : Moves s t) (hlist : u.list = t.list) (hengine : u.engine = t.engine)
    (harbiter : u.arbiter = t.arbiter) : Moves s u := h.trans (.same ⟨hlist, hengine, harbiter⟩)

theorem Moves.mapContext (s : State) (f : Context → Context) (hf : ∀ c : Context, c.Agrees (f c)) : Moves s (s.mapContext f) :=
  .context s.engine.clock f hf

/-- A close of a state over the same list (R47). -/
theorem Moves.closes {s u : State} (hlist : u.list = s.list) (o : RoundOutcome) : Moves s (u.close o) :=
  .close hlist o none _

theorem Moves.closesWon {s u : State} (hlist : u.list = s.list) (w : Nat) : Moves s (u.closeWon w) :=
  (Moves.close hlist .won (some w) u.context.slot).then_same
    (by unfold State.closeWon State.beginBlink; split <;> rfl) (u.closeWon_engine w)
    (by unfold State.closeWon State.beginBlink; split <;> rfl)

/-! ### The engine after what changes it least -/

/-- The kind of the round is kept by a change of the context that keeps it. -/
theorem State.mapContext_kind (s : State) (f : Context → Context) (hf : ∀ c, (f c).kind = c.kind) :
    (s.mapContext f).context.kind = s.context.kind := by
  simp only [State.context, State.mapContext_engine]
  cases s.engine.round with
  | none => rfl
  | some c => exact hf c

/-- The change to SETTLING depends on the engine alone (R36, R45). -/
theorem State.settleFromOpen_engine_congr {s t : State} (h : t.engine = s.engine) :
    t.settleFromOpen.engine = s.settleFromOpen.engine := by
  have hphase : t.phase = s.phase := by unfold State.phase; rw [h]
  simp only [State.settleFromOpen_engine, h, hphase]

/-- The count of admissions can as well be raised after the change to SETTLING. -/
theorem State.mapContext_settleFromOpen_engine (s : State) (n : Nat) :
    (s.mapContext fun c => { c with claimsAdmitted := n }).settleFromOpen.engine =
      (s.settleFromOpen.mapContext fun c => { c with claimsAdmitted := n }).engine := by
  have hphase : (s.mapContext fun c => { c with claimsAdmitted := n }).phase = s.phase := rfl
  simp only [State.settleFromOpen_engine, State.mapContext_engine, hphase]
  cases s.engine.round <;> rfl

/-- The queue without a team that has no claim in it. -/
theorem withoutTeam_of_claimOf_none {a : Arbiter} {n : Nat} (h : a.claimOf n = none) : withoutTeam a.queue n = a.queue := by
  simpa [withoutTeam, Arbiter.claimOf] using h

@[simp] theorem State.withdrawLocked_queue (s : State) (n : Nat) :
    (s.withdrawLocked n).arbiter = { s.arbiter with queue := withoutTeam s.arbiter.queue n } := by
  unfold State.withdrawLocked
  cases hclaim : s.arbiter.claimOf n with
  | some c => rfl
  | none => rw [withoutTeam_of_claimOf_none hclaim]

/-! ### The operations of a round -/

theorem State.examine_moves (s : State) (hlive : s.live = false) (k : Fin 128) : Moves s (s.examine k) := by
  unfold State.examine
  split
  next howner => exact .cue hlive k howner
  · exact .park hlive rfl rfl rfl _ _ _

theorem State.followFrom_moves (s : State) (hlive : s.live = false) (k : Fin 128) : Moves s (s.followFrom k) := by
  rcases s.followFrom_cases k with ⟨_, h⟩ | ⟨j, _, howner, h⟩ | ⟨j, _, _, h⟩ <;> rw [h]
  · exact .park hlive rfl rfl rfl _ _ _
  · exact .cue hlive j howner
  · exact .park hlive rfl rfl rfl _ _ _

theorem State.reexamine_moves (s : State) (hlive : s.live = false) : Moves s s.reexamine := by
  unfold State.reexamine
  split
  · exact s.followFrom_moves hlive _
  all_goals exact s.examine_moves hlive _

theorem State.testGrant_moves (s : State) : Moves s s.testGrant := by
  rcases s.testGrant_cases with h | ⟨c, rest, hsettling, hqueue, h⟩ | ⟨_, _, h⟩ <;> rw [h]
  · exact .refl s
  · exact .grant c rest hsettling hqueue
  · exact .closes rfl _

/-- What the admission checks have found of a claim that enters the queue or moves in it (R93). -/
theorem State.claimable_of_outcome {s : State} {o : Offer} (hbuzz : s.liveKind .buzz = true)
    (h : s.claimOutcome o = .admitted ∨ s.claimOutcome o = .replaced) (n : Nat) :
    s.Claimable ⟨o.team, o.stamp.toNat, o.source, n⟩ := by
  simp only [State.liveKind, Bool.and_eq_true, decide_eq_true_eq] at hbuzz
  unfold State.claimOutcome at h
  split at h
  · simp at h
  split at h
  · simp at h
  next hplay =>
  split at h
  · unfold State.falseStartOutcome at h
    repeat' split at h
    all_goals simp at h
  next hstart =>
  split at h
  · simp at h
  next hlock =>
  split at h
  · simp at h
  next hfloor =>
  split at h
  · simp at h
  next hlate =>
  simp only [Bool.not_eq_true', Bool.not_eq_false, State.inPlay, inSet, Bool.and_eq_true] at hplay
  simp only [State.isFalseStart, Bool.or_eq_true, decide_eq_true_eq, not_or] at hstart
  obtain ⟨hreading, hopen⟩ := hstart
  cases htime : s.context.openTime with
  | none => simp [htime] at hopen
  | some opened =>
    simp only [htime, decide_eq_true_eq, not_lt] at hopen
    refine ⟨hplay.1.1, hbuzz.1, hbuzz.2, hreading, by simpa using hlock, hfloor, ⟨opened, htime, ?_⟩, ?_⟩
    · show opened ≤ o.stamp.toNat
      omega
    · intro e hcalled he
      simp only [State.isLate, hcalled, he, Bool.true_and, decide_eq_true_eq, not_le] at hlate
      show o.stamp.toNat < e
      omega

theorem State.admitClaim_moves {s : State} (o : Offer)
    (h : s.Claimable ⟨o.team, o.stamp.toNat, o.source, s.nextNumber⟩) : Moves s (s.admitClaim o) := by
  unfold State.admitClaim
  refine .trans ?_ (State.testGrant_moves _)
  refine .trans (.enqueue _ h) ?_
  refine (Moves.mapContext _ (fun x => { x with claimsAdmitted := s.nextNumber })
    fun c => ⟨rfl, rfl, rfl, rfl, rfl, rfl, rfl, rfl⟩).then_same ?_ ?_ ?_
  · simp
  · rw [State.mapContext_settleFromOpen_engine, State.mapContext_engine, State.mapContext_engine,
      State.settleFromOpen_engine_congr (t := s.setQueue (s.queueWith _)) (s := s.place o .admitted _ none) rfl]
  · simp [State.place]

theorem State.replace_moves {s : State} (o : Offer)
    (h : ∀ n, s.Claimable ⟨o.team, o.stamp.toNat, o.source, n⟩) : Moves s (s.replace o) := by
  unfold State.replace
  split
  next old hold =>
    exact .trans ((Moves.replace _ old (h old.number) hold).then_same (by simp [State.setQueue]) (by simp [State.setQueue])
      (by simp [State.place])) (State.testGrant_moves _)
  · exact .refl s

theorem State.falseStartLock_moves (s : State) (o : Offer) (hteam : isTeamNumber o.team) :
    Moves s (s.falseStartLock o) := by
  have h : Moves s (((s.tellRefusal o .falseStartLocked).lockTeam o.team .falseStart).withdrawLocked o.team) :=
    (Moves.bar o.team .falseStart hteam).then_same (by simp [State.setQueue]) (by simp [State.setQueue])
      (by simp [State.setQueue])
  unfold State.falseStartLock
  dsimp only
  split
  · exact h.trans (State.testGrant_moves _)
  · exact h

theorem State.falseStartPenalise_moves (s : State) (o : Offer) (hteam : isTeamNumber o.team) :
    Moves s (s.falseStartPenalise o) := by
  have hbarred := Moves.bar (s := s) o.team .falseStart hteam
  unfold State.falseStartPenalise
  dsimp only
  generalize hu : (if (s.arbiter.claimOf o.team).isSome = true then _ else _) = u
  have hmoves : Moves s u := by
    rw [← hu]
    split
    · split_ifs
      all_goals exact hbarred.then_same (by simp [State.setQueue]) (by simp [State.setQueue]) (by simp [State.setQueue])
    next hnone =>
      have hqueue := withoutTeam_of_claimOf_none (by simpa using hnone)
      exact hbarred.then_same (by simp [State.setQueue]) (by simp [State.setQueue]) (by simp [State.setQueue, hqueue])
  split
  · exact hmoves.trans (State.testGrant_moves _)
  · exact hmoves

theorem State.offer_moves {s : State} (hbuzz : s.liveKind .buzz = true) (o : Offer) (hteam : isTeamNumber o.team) :
    Moves s (s.offer o) := by
  unfold State.offer
  split
  next h => exact State.admitClaim_moves o (State.claimable_of_outcome hbuzz (.inl h) _)
  next h => exact State.replace_moves o (State.claimable_of_outcome hbuzz (.inr h))
  · exact s.falseStartLock_moves o hteam
  · exact s.falseStartPenalise_moves o hteam
  all_goals exact .same ⟨by simp, by simp, by simp⟩

/-- The late claims withdrawn from a queue depend on the engine alone (R103). -/
theorem State.withdrawLate_arbiter (s : State) :
    s.withdrawLate.arbiter = { s.arbiter with queue := s.arbiter.queue.filter fun c => !s.isLate c.stamp } := by
  simp [State.withdrawLate, State.setQueue]

theorem State.callTime_moves {s : State} (h : s.engine.state = .opened ∨ s.engine.state = .settling)
    (hkind : s.context.kind = .buzz) : Moves s s.callTime := by
  unfold State.callTime
  refine .trans ((Moves.callTime h hkind).then_same ?_ ?_ ?_) (State.testGrant_moves _)
  · simp
  · simp [Context.timeUp]
  · simp [State.withdrawLate_arbiter, State.isLate, State.context, Context.timeUp]

theorem State.judgeRight_moves (s : State) (h : Holder) : Moves s (s.judgeRight h) :=
  .closesWon (by simp) _

/-- After steps 1 to 3 of a wrong verdict on the floor holder, whatever other units then do, the close or the rebound is a
chain of moves (R106 to R109). -/
theorem State.afterWrong_moves {s u : State} {h : Holder} (v : Verdict) (hfloor : s.engine.state = .floor)
    (hholder : s.context.holder = some h) (hu : SameRound (s.lockWrong h v) u) {f : Follows} (hf : f ≠ .closeWon) :
    Moves s (u.afterWrong f) := by
  have hlist : u.list = s.list := hu.list.trans (by simp [State.lockWrong])
  have harbiter : u.arbiter = s.arbiter := hu.arbiter.trans (by simp [State.lockWrong])
  cases f with
  | closeWon => exact absurd rfl hf
  | closeNoWinner => exact .closes hlist _
  | reboundQueue =>
    show Moves s u.reboundQueue
    unfold State.reboundQueue
    split_ifs with hqueue htime
    · refine .trans ((Moves.rebound h v hfloor hholder s.arbiter .settling (.inr ⟨rfl, rfl⟩)).then_same ?_ ?_ ?_)
        (State.testGrant_moves _)
      · simp [hu.list]
      · simp [hu.engine]
      · simp [harbiter]
    · exact .closes hlist _
    · refine (Moves.rebound h v hfloor hholder s.arbiter .opened (.inl ⟨rfl, ?_⟩)).then_same ?_ ?_ ?_
      · simpa [harbiter] using hqueue
      · simp [hu.list]
      · simp [hu.engine]
      · simp [harbiter]
  | reboundReopen =>
    show Moves s u.reboundReopen
    unfold State.reboundReopen
    dsimp only
    split_ifs with htime
    · exact .closes (by simp [hlist]) _
    · refine (Moves.rebound h v hfloor hholder ⟨[], some u.engine.clock⟩ .opened (.inl ⟨rfl, rfl⟩)).then_same ?_ ?_ ?_
      · simp [hu.list]
      · simp [hu.engine]
      · simp

theorem State.follows_ne_closeWon (s : State) : s.follows ≠ .closeWon := by
  unfold State.follows
  repeat' split
  all_goals simp

theorem State.judgeWrong_moves {s : State} {h : Holder} (v : Verdict) (hfloor : s.engine.state = .floor)
    (hholder : s.context.holder = some h) : Moves s (s.judgeWrong h v) := by
  unfold State.judgeWrong
  refine State.afterWrong_moves v hfloor hholder ?_ (State.follows_ne_closeWon _)
  split <;> exact ⟨by simp, by simp, by simp⟩

theorem State.payShares_moves {s u : State} (hlist : u.list = s.list) (y : Tally) : Moves s (u.payShares y) :=
  .closes (by simp [hlist]) _

/-- A tally completes in TALLYING (R41). -/
theorem State.completeTally_moves {s : State} (h : s.engine.state = .tallying) : Moves s s.completeTally := by
  have hmark : Moves s (s.mapContext fun c => { c with closeMark := none }) :=
    .mapContext s _ fun _ => ⟨rfl, rfl, rfl, rfl, rfl, rfl, rfl, rfl⟩
  unfold State.completeTally
  dsimp only
  split
  next hkind =>
    unfold State.completeChoice
    split
    · exact State.payShares_moves (by simp) _
    · refine (hmark.trans (.toAwaitKey ?_ ?_)).then_same ?_ ?_ ?_
      · exact h
      · rw [State.mapContext_kind s (fun c => { c with closeMark := none }) fun _ => rfl, hkind]
      all_goals simp
  · exact .closes (by simp) _

theorem State.testTally_moves (s : State) : Moves s s.testTally := by
  unfold State.testTally
  repeat' split
  next htally =>
    simp only [Bool.and_eq_true, decide_eq_true_eq] at htally
    exact State.completeTally_moves htally.1
  all_goals exact .refl s

theorem State.enterTallying_moves {s : State} (h : s.engine.state = .opened ∨ s.engine.state = .settling)
    (hkind : s.context.kind ≠ .buzz) : Moves s s.enterTallying := by
  have hmark : Moves s (s.mapContext fun c => { c with closeMark := some s.engine.clock }) :=
    .mapContext s _ fun _ => ⟨rfl, rfl, rfl, rfl, rfl, rfl, rfl, rfl⟩
  unfold State.enterTallying
  refine .trans ((hmark.trans (.toTally ?_ ?_)).then_same ?_ ?_ ?_) (State.testTally_moves _)
  · exact h
  · rwa [State.mapContext_kind s (fun c => { c with closeMark := some s.engine.clock }) fun _ => rfl]
  all_goals simp

theorem State.keyTally_moves (s : State) (k : OptKey) : Moves s (s.keyTally k) := by
  unfold State.keyTally
  split
  · exact State.payShares_moves (by simp) _
  · exact .closes rfl _

theorem State.tellSecond_moves (s : State) (n : Nat) : Moves s (s.tellSecond n) := by
  have h : Moves s (s.mapContext fun c => { c with lastSecond := some n }) :=
    .mapContext s _ fun _ => ⟨rfl, rfl, rfl, rfl, rfl, rfl, rfl, rfl⟩
  unfold State.tellSecond
  dsimp only
  split <;> exact h.then_same (by simp) (by simp) (by simp)

theorem State.roundTimeUp_moves {s : State} (h : s.engine.state = .opened ∨ s.engine.state = .settling) :
    Moves s s.roundTimeUp := by
  unfold State.roundTimeUp
  split
  next hkind => exact State.callTime_moves h hkind
  next hkind =>
    exact .trans (.same ⟨by simp, by simp, by simp⟩) (State.enterTallying_moves (by simpa using h) (by simpa [State.context] using hkind))

theorem State.answerTimeUp_moves {s : State} {h : Holder} (hfloor : s.engine.state = .floor)
    (hholder : s.context.holder = some h) : Moves s (s.answerTimeUp h) :=
  .trans (.same ⟨by simp, by simp, by simp⟩)
    (State.judgeWrong_moves _ (by simpa using hfloor) (by simpa [State.context] using hholder))

theorem State.judgeBy_moves {s : State} {h : Holder} (hfloor : s.engine.state = .floor)
    (hholder : s.context.holder = some h) (right : Bool) : Moves s (s.judgeBy h right) := by
  cases right
  · exact State.judgeWrong_moves .wrong hfloor hholder
  · exact s.judgeRight_moves h

theorem State.resume_moves {s : State} (h : s.engine.state = .paused) : Moves s s.resume := by
  unfold State.resume
  split
  next hdue =>
    simp only [Bool.and_eq_true, decide_eq_true_eq] at hdue
    exact .trans (.resumeDue h hdue.1 hdue.2) (State.testGrant_moves _)
  next hdue =>
    exact .trans (.resume h (by simpa using hdue)) (State.testGrant_moves _)

theorem State.abandon_moves (s : State) : Moves s s.abandon := .closes (by simp) _

/-! ### Presses and takes -/

theorem State.acceptPress_moves (s : State) (n : Nat) (hn : isTeamNumber n) : Moves s (s.acceptPress n) := by
  unfold State.acceptPress
  dsimp only
  have h : Moves s (s.setLineAt n { s.lineAt n with state := .pressed, count := 0 }) := .same ⟨rfl, rfl, rfl⟩
  split
  · refine h.trans ?_
    unfold State.offerPress
    split_ifs with hbuzz
    · exact .refl _
    · exact .refl _
    · exact State.offer_moves (by simpa using hbuzz) _ hn
  · exact h

theorem State.dispatch_moves {s : State} (hlive : s.live = true) (e : FifoEntry) (p n : Option Nat) (a : Nat) :
    Moves s (s.dispatch e p n a) := by
  unfold State.dispatch State.dispatchBuzz
  repeat' split
  next hbuzz =>
    simp only [Bool.and_eq_true, decide_eq_true_eq] at hbuzz
    exact State.offer_moves (by simp [State.liveKind, hlive, hbuzz.1]) _ hbuzz.2
  · exact .refl s
  · exact .refl s
  · exact .same ⟨by simp, by simp, by simp⟩
  · exact .refl s

theorem State.handleKey_moves (s : State) (e : FifoEntry) (p n : Option Nat) : Moves s (s.handleKey e p n) := by
  unfold State.handleKey State.checkRound
  split
  · exact .refl s
  split
  · exact .same ⟨rfl, rfl, rfl⟩
  next hinside =>
  have hlive : s.live = true := by
    simp only [State.outsideRound, Bool.or_eq_true, not_or] at hinside
    simpa using hinside.1.1
  repeat' split
  · exact .same ⟨rfl, rfl, rfl⟩
  · exact State.dispatch_moves hlive e p n _
  · exact .refl s

theorem State.handle_moves (s : State) (e : FifoEntry) : Moves s (s.handle e) := by
  unfold State.handle State.handleRoster
  repeat' split
  · exact .same ⟨rfl, rfl, rfl⟩
  · exact .trans (.same ⟨by simp, by simp, by simp⟩) (State.handleKey_moves _ e _ _)
  · exact s.handleKey_moves e none none
  · exact .same ⟨by simp, by simp, by simp⟩

theorem State.completeTake_moves (s : State) (e : FifoEntry) : Moves s (s.completeTake e) := by
  unfold State.completeTake
  refine (s.handle_moves e).trans (.trans ?_ ((State.testGrant_moves _).trans (State.testTally_moves _)))
  exact .same ⟨rfl, rfl, rfl⟩

/-! ### Every row -/

/-- A row that cannot change the engine cannot change the arbiter. -/
theorem arbiter_not_mem_reach {i : Instr} (h : .engine ∉ reach i) : .arbiter ∉ reach i := by
  have hreach : (reach i).elem .arbiter = true → (reach i).elem .engine = true := by
    cases i <;> intro h <;> first | rfl | cases h
  simpa using mt hreach (by simpa using h)

/-- The work of a command is a chain of moves. -/
theorem carry_moves {i : Instr} {carry : State → Carried} (h : carryOf i = some carry)
    (hreach : Part.list ∈ reach i ∨ Part.engine ∈ reach i) (s : State) : Moves s (carry s).state := by
  cases i with
  | writeRound slot d =>
    cases h; unfold carryWriteRound
    repeat' split
    any_goals exact .refl s
    next hedit _ _ => exact .slot _ _ fun howner => absurd howner hedit
  | handOver slot =>
    cases h; unfold carryHandOver
    repeat' split
    any_goals exact .refl s
    exact .slot _ _ fun _ _ _ => rfl
  | takeBack slot =>
    cases h; unfold carryTakeBack
    split
    · exact .refl s
    split_ifs with hedit hcurrent hlive
    · exact .refl s
    · refine .slot _ _ fun _ hidle hpointer => ?_
      simp [State.isCurrent, hidle, hpointer] at hcurrent
    · exact .refl s
    · exact .park (s := s) (u := s.setSlot _ _) (by simpa using hlive) (by simp) rfl rfl _ _ _
  | setPointer slot =>
    cases h; unfold carrySetPointer
    repeat' split
    any_goals exact .refl s
    next hlive => exact s.examine_moves (by simpa using hlive) _
  | go =>
    cases h; unfold carryGo
    split
    next hidle => exact s.reexamine_moves (by simp [State.live, hidle, EngineState.live])
    · exact .refl s
  | startRound =>
    cases h; unfold carryStartRound
    split_ifs with hcued
    · exact .refl s
    · exact .refl s
    · exact .start (by simpa using hcued)
  | openRound =>
    cases h; unfold carryOpenRound
    split
    next hreading => exact .openRound hreading
    · exact .refl s
  | closeRound =>
    cases h; unfold carryCloseRound
    split
    next hopen =>
      simp only [Bool.and_eq_true, decide_eq_true_eq] at hopen
      exact State.enterTallying_moves (.inl hopen.1) hopen.2
    · exact .refl s
  | judge v =>
    cases h; unfold carryJudge
    split
    · exact .refl s
    next hfloor =>
    repeat' split
    any_goals exact .refl s
    next hholder => exact State.judgeBy_moves (by simpa using hfloor) hholder _
  | revealKey o =>
    cases h; unfold carryRevealKey
    repeat' split
    any_goals exact .refl s
    exact s.keyTally_moves _
  | pause =>
    cases h; unfold carryPause
    split
    next hpausable => exact .pause hpausable
    · exact .refl s
  | resume =>
    cases h; unfold carryResume
    split
    next hpaused => exact State.resume_moves hpaused
    · exact .refl s
  | abandon =>
    cases h; unfold carryAbandon
    split
    · exact s.abandon_moves
    · exact .refl s
  | _ => first | exact absurd hreach (not_or.mpr ⟨not_mem_reach rfl, not_mem_reach rfl⟩) | cases h

theorem State.timersTicked_agrees (s : State) (c : Context) : c.Agrees (s.timersTicked c) := by
  unfold State.timersTicked
  repeat' split
  all_goals exact ⟨rfl, rfl, rfl, rfl, rfl, rfl, rfl, rfl⟩

@[simp] theorem State.abandonForReset_length (s : State) :
    s.abandonForReset.list.slots.length = s.list.slots.length := by
  unfold State.abandonForReset
  split
  · simp [State.closeRound_list]
  · rfl

theorem exec_moves (i : Instr) (s : State) : ∃ t, exec i s = .next t ∧ Moves s t := by
  by_cases hreach : Part.list ∈ reach i ∨ Part.engine ∈ reach i
  case neg =>
    obtain ⟨hlist, hengine⟩ := not_or.mp hreach
    obtain ⟨t, ht, hframe⟩ := exec_frame i s
    exact ⟨t, ht, .same ⟨hframe.list hlist, hframe.engine hengine, hframe.arbiter (arbiter_not_mem_reach hengine)⟩⟩
  cases hcarry : carryOf i with
  | some carry =>
    rw [exec_of_carry hcarry]
    refine desk_keeps (P := Moves s) (.refl s) (fun h => h.then_same (by simp) (by simp) (by simp)) fun u _ hu => ?_
    exact (hu.trans (carry_moves hcarry hreach u)).then_same (by simp) (by simp) (by simp)
  | none =>
    cases i with
    | hardReset =>
      exact ⟨_, rfl, .reset (fun _ => List.length_replicate) rfl rfl rfl rfl rfl⟩
    | showResetExecute =>
      refine ⟨_, rfl, ?_⟩
      split
      · refine .reset (fun h => ?_) rfl rfl rfl rfl rfl
        show (s.abandonForReset.list.slots.map _).length = 128
        simp [h]
      · exact .refl s
    | readingTimerExpiry =>
      refine ⟨_, rfl, ?_⟩
      split
      next h =>
        simp only [Bool.and_eq_true, decide_eq_true_eq] at h
        exact .trans (.same ⟨by simp, by simp, by simp⟩) (.openRound (by simpa using h.1))
      · exact .refl s
    | roundTimerSecond =>
      refine ⟨_, rfl, ?_⟩
      repeat' split
      · exact s.tellSecond_moves _
      all_goals exact .refl s
    | roundTimerExpiry =>
      refine ⟨_, rfl, ?_⟩
      split
      next h =>
        refine State.roundTimeUp_moves ?_
        simp only [State.roundTimerCounts, Bool.and_eq_true, Bool.or_eq_true, decide_eq_true_eq] at h
        tauto
      · exact .refl s
    | answerTimerExpiry =>
      refine ⟨_, rfl, ?_⟩
      split
      next hholder =>
        split
        next h =>
          simp only [Bool.and_eq_true, decide_eq_true_eq] at h
          exact State.answerTimeUp_moves h.1 hholder
        · exact .refl s
      · exact .refl s
    | roundClockHold =>
      refine ⟨_, rfl, ?_⟩
      split
      · exact s.testGrant_moves
      · exact .refl s
    | settleDeadlineReached => exact ⟨_, rfl, s.testGrant_moves⟩
    | linePressAccepted n =>
      refine ⟨_, rfl, ?_⟩
      split
      next h =>
        simp only [Bool.and_eq_true] at h
        exact s.acceptPress_moves n h.1.1
      · exact .refl s
    | takeComplete =>
      refine ⟨_, rfl, ?_⟩
      repeat' split
      · exact s.completeTake_moves _
      all_goals exact .refl s
    | tick levels =>
      exact ⟨_, rfl, (Moves.context s.engineTicked.clock _ s.timersTicked_agrees).then_same rfl (by simp; rfl) rfl⟩
    | _ => first | exact absurd hreach (not_or.mpr ⟨not_mem_reach rfl, not_mem_reach rfl⟩) | cases hcarry

end Sys2Proof.Machine
end

section
/-! The engine's invariant and the list's are kept by every move of a round, and so by every row (R6, R21, R23, R59,
R94). -/

namespace Sys2Proof.Machine

/-! ### Reading the engine's invariant -/

theorem State.phase_of_ne_paused {s : State} (h : s.engine.state ≠ .paused) : s.phase = s.engine.state := if_neg h

theorem State.context_of_some {s : State} {c : Context} (h : s.engine.round = some c) : s.context = c := by
  simp [State.context, h]

theorem EngineFits.remembered_eq_none {s : State} (h : EngineFits s) (hstate : s.engine.state ≠ .paused) :
    s.engine.remembered = none := by
  obtain ⟨hpaused, -⟩ := h
  simpa using mt hpaused.mpr hstate

theorem EngineFits.round_eq_some {s : State} (h : EngineFits s) (hlive : s.live = true) : ∃ c, s.engine.round = some c := by
  obtain ⟨-, -, hround, -⟩ := h
  exact Option.isSome_iff_exists.mp (hround hlive)

theorem EngineFits.holder_eq_none {s : State} (h : EngineFits s) (hphase : s.phase ≠ .floor) : s.context.holder = none := by
  obtain ⟨-, -, -, hholder, -⟩ := h
  simpa using mt hholder.mp hphase

/-- The engine's invariant in a state that is not PAUSED. -/
theorem engineFits_of_running {s : State} (hstate : s.engine.state ≠ .paused) (hremembered : s.engine.remembered = none)
    (hround : s.live = true → s.engine.round.isSome) (hholder : s.context.holder.isSome ↔ s.engine.state = .floor)
    (hkind : s.engine.state = .tallying ∨ s.engine.state = .awaitKey → s.context.kind ≠ .buzz) : EngineFits s := by
  unfold EngineFits
  rw [State.phase_of_ne_paused hstate]
  exact ⟨by simp [hstate, hremembered], by simp [hremembered], hround, hholder, hkind⟩

/-- With no round live and no holder kept, the engine's invariant holds. -/
theorem engineFits_of_not_live {s : State} (hlive : s.live = false) (hremembered : s.engine.remembered = none)
    (hholder : s.context.holder = none) : EngineFits s := by
  unfold State.live EngineState.live at hlive
  apply engineFits_of_running <;> revert hlive <;> cases hs : s.engine.state <;>
    simp [State.live, EngineState.live, hs, hremembered, hholder]

theorem EngineFits.of_engine {s t : State} (h : EngineFits s) (heq : t.engine = s.engine) : EngineFits t := by
  have hphase : t.phase = s.phase := by unfold State.phase; rw [heq]
  have hcontext : t.context = s.context := by unfold State.context; rw [heq]
  have hlive : t.live = s.live := by unfold State.live; rw [heq]
  unfold EngineFits at h ⊢
  rwa [heq, hphase, hcontext, hlive]

theorem EngineFits.of_not_live {s t : State} (h : EngineFits s) (hlive : s.live = false) (x : EngineState)
    (hx : x.live = false) (heq : t.engine = { s.engine with state := x }) : EngineFits t := by
  have hstate : s.engine.state ≠ .paused := by
    intro hp; simp [State.live, hp, EngineState.live] at hlive
  have hfloor : s.engine.state ≠ .floor := by
    intro hp; simp [State.live, hp, EngineState.live] at hlive
  refine engineFits_of_not_live ?_ ?_ ?_
  · simp [State.live, heq, hx]
  · simpa [heq] using h.remembered_eq_none hstate
  · have hnone := h.holder_eq_none (by rwa [State.phase_of_ne_paused hstate])
    simpa [State.context, heq] using hnone

/-! ### The moves and the engine -/

/-- The round's context after a change of it. -/
theorem State.context_of_map {s t : State} {f : Context → Context} (h : t.engine.round = s.engine.round.map f)
    (hround : s.engine.round.isSome) : t.context = f s.context := by
  obtain ⟨c, hc⟩ := Option.isSome_iff_exists.mp hround
  simp [State.context, h, hc]

/-- A change of the context that keeps its holder and its kind. -/
theorem EngineFits.of_map {s t : State} (h : EngineFits s) (f : Context → Context)
    (hf : ∀ c, (f c).holder = c.holder ∧ (f c).kind = c.kind) (hstate : t.engine.state = s.engine.state)
    (hremembered : t.engine.remembered = s.engine.remembered) (hmap : t.engine.round = s.engine.round.map f) :
    EngineFits t := by
  have hphase : t.phase = s.phase := by unfold State.phase; rw [hstate, hremembered]
  have hlive : t.live = s.live := by unfold State.live; rw [hstate]
  have hround : t.engine.round.isSome = s.engine.round.isSome := by simp [hmap]
  obtain ⟨hholder, hkind⟩ : t.context.holder = s.context.holder ∧ t.context.kind = s.context.kind := by
    simp only [State.context, hmap]
    cases s.engine.round with
    | none => exact ⟨rfl, rfl⟩
    | some c => exact hf c
  unfold EngineFits at h ⊢
  rwa [hphase, hlive, hstate, hremembered, hround, hholder, hkind]

theorem EngineFits.close (s : State) (o : RoundOutcome) (w : Option Nat) (k : Fin 128) :
    EngineFits ((s.closeRound o w).followFrom k) := by
  have hholder : (s.engine.round.map Context.closed).getD Context.blank = ((s.engine.round.getD Context.blank).closed) := by
    cases s.engine.round <;> rfl
  rcases (s.closeRound o w).followFrom_engine k with h | h <;>
    exact engineFits_of_not_live (by simp [State.live, h, EngineState.live]) (by simp [h, State.closeRound_engine])
      (by simp [State.context, h, State.closeRound_engine, hholder, Context.closed])

theorem EngineFits.pause {s : State} (h : EngineFits s) (hpausable : s.engine.state.pausable) : EngineFits s.pause := by
  have hstate : s.engine.state ≠ .paused := by intro hp; simp [hp, EngineState.pausable] at hpausable
  obtain ⟨-, -, hround, hholder, hkind⟩ := h
  rw [State.phase_of_ne_paused hstate] at hholder hkind
  have hphase : s.pause.phase = s.engine.state := by simp [State.pause, State.phase]
  have hcontext : s.pause.context = s.context := by simp [State.pause, State.context]
  have hlive : s.live = true := by
    unfold State.live
    revert hpausable
    cases s.engine.state <;> simp [EngineState.live, EngineState.pausable]
  refine ⟨?_, ?_, fun _ => ?_, ?_, ?_⟩
  · simp [State.pause]
  · simpa [State.pause] using hpausable
  · simpa [State.pause] using hround hlive
  · rw [hphase, hcontext, hholder]
  · rwa [hphase, hcontext]

/-- What PAUSED remembers is a state that can be paused (R43). -/
theorem EngineFits.remembered_of_paused {s : State} (h : EngineFits s) (hpaused : s.engine.state = .paused) :
    ∃ x, s.engine.remembered = some x ∧ x.pausable ∧ s.phase = x := by
  obtain ⟨hremembered, hpausable, -⟩ := h
  obtain ⟨x, hx⟩ := Option.isSome_iff_exists.mp (hremembered.mp hpaused)
  exact ⟨x, hx, hpausable x hx, by simp [State.phase, hpaused, hx]⟩

theorem EngineFits.unpause {s : State} (h : EngineFits s) (hpaused : s.engine.state = .paused) : EngineFits s.unpause := by
  obtain ⟨x, -, hpausable, hphase⟩ := h.remembered_of_paused hpaused
  have hne : s.phase ≠ .paused := by rintro hp; simp [← hphase, hp, EngineState.pausable] at hpausable
  obtain ⟨c, hc⟩ := h.round_eq_some (by simp [State.live, hpaused, EngineState.live])
  obtain ⟨-, -, -, hholder, hkind⟩ := h
  have hstate : s.unpause.engine.state = s.phase := rfl
  have hcontext : s.unpause.context = s.context := rfl
  apply engineFits_of_running
  · rwa [hstate]
  · rfl
  · simp [State.unpause, hc]
  · rwa [hcontext, hstate]
  · rwa [hcontext, hstate]

/-- A running state in which nobody may hold the floor. -/
theorem engineFits_of_no_holder {s : State} (hstate : s.engine.state = .reading ∨ s.engine.state = .opened ∨
    s.engine.state = .settling ∨ s.engine.state = .tallying ∨ s.engine.state = .awaitKey)
    (hremembered : s.engine.remembered = none) (hround : s.engine.round.isSome) (hholder : s.context.holder = none)
    (hkind : s.engine.state = .tallying ∨ s.engine.state = .awaitKey → s.context.kind ≠ .buzz) : EngineFits s := by
  apply engineFits_of_running
  · rintro hp; simp [hp] at hstate
  · exact hremembered
  · exact fun _ => hround
  · rcases hstate with h | h | h | h | h <;> simp [h, hholder]
  · exact hkind

/-- What the engine's invariant says of a state in which the round runs. -/
structure Running (s : State) : Prop where
  remembered : s.engine.remembered = none
  round : s.engine.round.isSome
  holder : s.engine.state ≠ .floor → s.context.holder = none

theorem EngineFits.running {s : State} (h : EngineFits s) (hlive : s.live = true) (hstate : s.engine.state ≠ .paused) :
    Running s where
  remembered := h.remembered_eq_none hstate
  round := by obtain ⟨c, hc⟩ := h.round_eq_some hlive; simp [hc]
  holder hfloor := h.holder_eq_none (by rwa [State.phase_of_ne_paused hstate])

/-- The running round enters a state without a holder, its context changed to one that has none. -/
theorem Running.enter {s t : State} (h : Running s) (f : Context → Context) (hf : (f s.context).holder = none)
    (hstate : t.engine.state = .opened ∨ t.engine.state = .settling) (hremembered : t.engine.remembered = s.engine.remembered)
    (hmap : t.engine.round = s.engine.round.map f) : EngineFits t := by
  refine engineFits_of_no_holder (by tauto) (hremembered.trans h.remembered) (by simp [hmap, h.round]) ?_ ?_
  · rwa [State.context_of_map hmap h.round]
  · rcases hstate with h | h <;> simp [h]

theorem EngineFits.settleFromOpen {s : State} (h : EngineFits s) : EngineFits s.settleFromOpen := by
  unfold State.settleFromOpen
  split_ifs with hopen hphase
  · have hrun := h.running (by simp [State.live, hopen, EngineState.live]) (by simp [hopen])
    exact hrun.enter id (hrun.holder (by simp [hopen])) (.inr rfl) rfl (by simp)
  · exact h.of_map (fun c => { c with settleDue := true }) (fun _ => ⟨rfl, rfl⟩) rfl rfl rfl
  · exact h

theorem Context.lock_holder (c : Context) (n : Nat) (reason : LockReason) :
    (c.lock n reason).holder = c.holder ∧ (c.lock n reason).kind = c.kind := by
  unfold Context.lock; split <;> exact ⟨rfl, rfl⟩

/-- The context after steps 1 to 3 of a wrong verdict (R106). -/
def Context.wronged (c : Context) (n : Nat) (reason : LockReason) : Context :=
  { c with holder := none, answerLeft := none, wrongCount := c.wrongCount + 1 }.lock n reason

theorem State.lockWrong_engine (s : State) (h : Holder) (v : Verdict) :
    (s.lockWrong h v).engine =
      { s.engine with round := s.engine.round.map fun c => c.wronged h.team (lockReasonOf v) } := by
  simp only [State.lockWrong, State.lockTeam_engine, State.mapContext_engine, State.clearFloor_engine, Option.map_map]
  rfl

/-- Every move keeps the engine's invariant. -/
theorem Moves.engineFits {s t : State} (h : Moves s t) : EngineFits s → EngineFits t := by
  induction h with
  | same h => exact fun hs => hs.of_engine h.engine
  | trans _ _ ih₁ ih₂ => exact fun hs => ih₂ (ih₁ hs)
  | reset _ _ hstate hremembered hround _ =>
    exact fun _ => engineFits_of_not_live (by simp [State.live, hstate, EngineState.live]) hremembered
      (by simp [State.context, hround, Context.blank])
  | slot k x _ => exact fun hs => hs.of_engine rfl
  | park hlive _ hengine _ k reason basis => exact fun hs => hs.of_not_live hlive .idle rfl (by simp [hengine])
  | cue hlive j _ => exact fun hs => hs.of_not_live hlive .cued rfl rfl
  | start _ => exact fun _ => engineFits_of_no_holder (.inl rfl) rfl rfl rfl (by simp [State.start])
  | @openRound s hreading =>
    intro hs
    have hrun := hs.running (by simp [State.live, hreading, EngineState.live]) (by simp [hreading])
    exact hrun.enter (fun c => c.opened s.engine.clock s.setup.timeLimitMs) (hrun.holder (by simp [hreading])) (.inl rfl) rfl rfl
  | context clock f hf => exact fun hs => hs.of_map f (fun c => ⟨(hf c).holder, (hf c).kind⟩) rfl rfl rfl
  | pause hpausable => exact fun hs => hs.pause hpausable
  | resume hpaused _ => exact fun hs => hs.unpause hpaused
  | @resumeDue s hpaused hphase _ =>
    intro hs
    have hrun := (hs.unpause hpaused).running (by simp [State.unpause, State.live, hphase, EngineState.live])
      (by simp [State.unpause, hphase])
    exact hrun.enter _ (hrun.holder (by simp [State.unpause, hphase])) (.inr rfl) rfl rfl
  | close _ o w k => exact fun _ => EngineFits.close _ o w k
  | @grant s c rest hsettling _ =>
    intro hs
    have hrun := hs.running (by simp [State.live, hsettling, EngineState.live]) (by simp [hsettling])
    apply engineFits_of_running
    · simp [State.grant_engine]
    · exact hrun.remembered
    · simp [State.grant_engine, hrun.round]
    · rw [State.context_of_map (by rw [State.grant_engine]) hrun.round]
      simp [State.grant_engine, Context.granted]
    · simp [State.grant_engine]
  | enqueue c _ => exact fun hs => EngineFits.settleFromOpen (hs.of_engine rfl)
  | replace c old _ _ => exact fun hs => hs.of_engine rfl
  | bar n reason _ => exact fun hs => hs.of_map _ (fun c => c.lock_holder n reason) rfl rfl rfl
  | @callTime s hstate _ =>
    intro hs
    have hrun := hs.running (by rcases hstate with h | h <;> simp [State.live, h, EngineState.live])
      (by rcases hstate with h | h <;> simp [h])
    exact hrun.enter (fun c => c.timeUp s.engine.clock) (hrun.holder (by rcases hstate with h | h <;> simp [h]))
      (.inr (by simp)) (by simp) (by simp)
  | @rebound s h v hfloor _ a x hx =>
    intro hs
    have hrun := hs.running (by simp [State.live, hfloor, EngineState.live]) (by simp [hfloor])
    refine hrun.enter (fun c => c.wronged h.team (lockReasonOf v)) (Context.lock_holder _ _ _).1 ?_ ?_ ?_
    · rcases hx with ⟨rfl, _⟩ | ⟨rfl, _⟩ <;> simp
    · simp [State.lockWrong_engine]
    · simp [State.lockWrong_engine]
  | @toTally s hstate hkind =>
    intro hs
    have hrun := hs.running (by rcases hstate with h | h <;> simp [State.live, h, EngineState.live])
      (by rcases hstate with h | h <;> simp [h])
    exact engineFits_of_no_holder (by simp) hrun.remembered hrun.round
      (hrun.holder (by rcases hstate with h | h <;> simp [h])) fun _ => hkind
  | @toAwaitKey s hstate hkind =>
    intro hs
    have hrun := hs.running (by simp [State.live, hstate, EngineState.live]) (by simp [hstate])
    refine engineFits_of_no_holder (by simp) hrun.remembered hrun.round (hrun.holder (by simp [hstate])) fun _ => ?_
    show s.context.kind ≠ .buzz
    simp [hkind]

/-- Settles O6: every row is a chain of moves, and every move keeps the engine's invariant. -/
theorem engineKeepsFitting : Obligations.EngineKeepsFitting := by
  intro s t hs hst
  refine step_keeps (P := EngineFits) (fun _ _ h => h.of_engine rfl) (fun i u hu => ?_) hs hst
  obtain ⟨v, hv, hmoves⟩ := exec_moves i u
  exact ⟨v, hv, hmoves.engineFits hu⟩

/-! ### The moves and the list -/

/-- The same list, and an engine that is IDLE exactly where it was and whose round, where live, is at the same slot. -/
theorem ListFits.of_map {s t : State} (h : ListFits s) (f : Context → Context) (hf : ∀ c, (f c).slot = c.slot)
    (hlist : t.list = s.list) (hidle : t.engine.state = .idle ↔ s.engine.state = .idle)
    (hlive : t.live = true → s.live = true) (hmap : t.engine.round = s.engine.round.map f) : ListFits t := by
  have hslot : t.context.slot = s.context.slot := by
    simp only [State.context, hmap]
    cases s.engine.round with
    | none => rfl
    | some c => exact hf c
  obtain ⟨hlength, hpark, howner, hcurrent⟩ := h
  refine ⟨by rw [hlist, hlength], by rw [hlist, hpark, hidle], fun hne => ?_, fun hl => ?_⟩
  · unfold State.slotAt at howner ⊢
    rw [hlist]
    exact howner (mt hidle.mpr hne)
  · rw [hslot, hlist]
    exact hcurrent (hlive hl)

/-- From one live state to another. -/
theorem ListFits.of_live {s t : State} (h : ListFits s) (f : Context → Context) (hf : ∀ c, (f c).slot = c.slot)
    (hlist : t.list = s.list) (hs : s.live = true) (ht : t.live = true) (hmap : t.engine.round = s.engine.round.map f) :
    ListFits t := by
  refine h.of_map f hf hlist ?_ (fun _ => hs) hmap
  unfold State.live at hs ht
  constructor
  · intro hidle; simp [hidle, EngineState.live] at ht
  · intro hidle; simp [hidle, EngineState.live] at hs

/-- A walk's end, or a parked position, over 128 slots. -/
theorem ListFits.parkAt {s : State} (hlength : s.list.slots.length = 128) (k : Fin 128) (reason : ParkReason)
    (basis : ParkBasis) : ListFits (s.parkAt k reason basis) := by
  refine ⟨by simpa using hlength, by simp, by simp, ?_⟩
  simp [State.live, EngineState.live]

theorem ListFits.cueAt {s : State} (hlength : s.list.slots.length = 128) {j : Fin 128} (howner : (s.slotAt j).owner = .engine) :
    ListFits (s.cueAt j) :=
  ⟨hlength, by simp [State.cueAt], fun _ => howner, by simp [State.live, EngineState.live]⟩

theorem ListFits.followFrom {s : State} (hlength : s.list.slots.length = 128) (k : Fin 128) : ListFits (s.followFrom k) := by
  rcases s.followFrom_cases k with ⟨_, h⟩ | ⟨j, _, howner, h⟩ | ⟨j, _, _, h⟩ <;> rw [h]
  · exact .parkAt hlength _ _ _
  · exact .cueAt hlength howner
  · exact .parkAt hlength _ _ _

theorem ListFits.slot {s : State} (h : ListFits s) {k : Fin 128} {x : Slot}
    (hx : (s.slotAt k).owner = .engine → s.engine.state ≠ .idle → s.list.pointer = k → x.owner = .engine) :
    ListFits (s.setSlot k x) := by
  obtain ⟨hlength, hpark, howner, hcurrent⟩ := h
  refine ⟨by simpa using hlength, hpark, fun hidle => ?_, hcurrent⟩
  show ((s.setSlot k x).slotAt s.list.pointer).owner = .engine
  rw [s.slotAt_setSlot k _ x hlength]
  split
  next heq => exact hx (heq ▸ howner hidle) hidle heq
  · exact howner hidle

theorem EngineState.ne_idle_of_live {x : EngineState} (h : x.live = true) : x ≠ .idle := by
  rintro rfl; simp [EngineState.live] at h

theorem Context.lock_slot (c : Context) (n : Nat) (reason : LockReason) : (c.lock n reason).slot = c.slot := by
  unfold Context.lock; split <;> rfl

theorem State.live_of_state {s : State} {x : EngineState} (h : s.engine.state = x) (hx : x.live = true) : s.live = true := by
  rwa [State.live, h]

theorem EngineState.live_of_pausable {x : EngineState} (h : x.pausable) : x.live = true := by
  revert h; cases x <;> simp [EngineState.pausable, EngineState.live]

/-- Every move keeps the list's invariant, where the engine's holds. -/
theorem Moves.listFits {s t : State} (h : Moves s t) : EngineFits s → ListFits s → ListFits t := by
  induction h with
  | same h =>
    exact fun _ hs => hs.of_map id (fun _ => rfl) h.list (by rw [h.engine]) (by simp [State.live, h.engine])
      (by simp [h.engine])
  | trans h _ ih₁ ih₂ => exact fun he hs => ih₂ (h.engineFits he) (ih₁ he hs)
  | reset hlength hpark hstate _ _ _ =>
    intro _ ⟨hlen, _⟩
    refine ⟨hlength hlen, by simp [hpark, hstate], by simp [hstate], ?_⟩
    simp [State.live, hstate, EngineState.live]
  | slot k x hx => exact fun _ hs => hs.slot hx
  | park _ hlength _ _ k reason basis => exact fun _ hs => .parkAt (hlength.trans hs.1) k reason basis
  | cue _ j howner => exact fun _ hs => .cueAt hs.1 howner
  | @start s hcued =>
    intro _ hs
    have hcurrent := hs.slot (k := s.list.pointer) (x := { s.slotAt s.list.pointer with result := RoundResult.cleared })
      fun howner _ _ => howner
    obtain ⟨hlength, hpark, howner, -⟩ := hcurrent
    refine ⟨hlength, ?_, fun _ => howner (by simp [hcued]), fun _ => rfl⟩
    simpa [hcued, State.start] using hpark
  | @openRound s hreading =>
    exact fun _ hs => hs.of_live (fun c => c.opened s.engine.clock s.setup.timeLimitMs) (fun _ => rfl) rfl
      (State.live_of_state hreading rfl) rfl rfl
  | context clock f hf => exact fun _ hs => hs.of_map f (fun c => (hf c).slot) rfl .rfl id rfl
  | pause hpausable =>
    exact fun _ hs => hs.of_live id (fun _ => rfl) rfl (EngineState.live_of_pausable hpausable) rfl (by simp [State.pause])
  | @resume s hpaused _ =>
    intro he hs
    obtain ⟨x, -, hx, hphase⟩ := he.remembered_of_paused hpaused
    exact hs.of_live id (fun _ => rfl) rfl (State.live_of_state hpaused rfl)
      (State.live_of_state hphase (EngineState.live_of_pausable hx)) (by simp [State.unpause])
  | resumeDue hpaused _ _ =>
    exact fun _ hs => hs.of_live (fun c => { c with settleDue := false }) (fun _ => rfl) rfl
      (State.live_of_state hpaused rfl) rfl rfl
  | close hlist o w k =>
    intro _ hs
    refine .followFrom ?_ k
    rw [State.closeRound_list, hlist]
    simpa using hs.1
  | @grant s c rest hsettling _ =>
    exact fun _ hs => hs.of_live (fun x => x.granted c (secondsMs s.setup.answerWindow)) (fun _ => rfl) (by simp)
      (State.live_of_state hsettling rfl) rfl rfl
  | enqueue c hc =>
    intro _ hs
    refine hs.of_map _ ?_ (by simp [State.setQueue]) ?_ ?_ (by rw [State.settleFromOpen_engine]; rfl)
    · exact fun _ => rfl
    · rw [State.settleFromOpen_engine]
      show (if _ then _ else _) = _ ↔ _
      split <;> simp_all
    · exact fun _ => hc.live
  | replace c old _ _ => exact fun _ hs => hs.of_map id (fun _ => rfl) rfl .rfl id (by simp [State.setQueue])
  | bar n reason _ => exact fun _ hs => hs.of_map _ (fun c => c.lock_slot n reason) rfl .rfl id rfl
  | @callTime s hstate _ =>
    intro _ hs
    refine hs.of_live (fun c => c.timeUp s.engine.clock) (fun _ => rfl) (by simp) ?_ (by simp [State.live, EngineState.live]) (by simp)
    rcases hstate with h | h <;> exact State.live_of_state h rfl
  | @rebound s h v hfloor _ a x hx =>
    intro _ hs
    refine hs.of_live (fun c => c.wronged h.team (lockReasonOf v)) (fun c => Context.lock_slot _ _ _) (by simp [State.lockWrong])
      (State.live_of_state hfloor rfl) ?_ (by simp [State.lockWrong_engine])
    rcases hx with ⟨rfl, _⟩ | ⟨rfl, _⟩ <;> rfl
  | @toTally s hstate _ =>
    intro _ hs
    refine hs.of_live id (fun _ => rfl) rfl ?_ rfl (by simp)
    rcases hstate with h | h <;> exact State.live_of_state h rfl
  | toAwaitKey hstate _ =>
    exact fun _ hs => hs.of_live id (fun _ => rfl) rfl (State.live_of_state hstate rfl) rfl (by simp)

/-- Settles O7: every row is a chain of moves, and every move keeps the list position fitting the engine. -/
theorem listPositionKeepsFitting : Obligations.ListPositionKeepsFitting := by
  intro s t he hs hst
  refine (step_keeps (P := fun u => EngineFits u ∧ ListFits u) (fun _ _ h => ⟨h.1.of_engine rfl, h.2⟩)
    (fun i u hu => ?_) ⟨he, hs⟩ hst).2
  obtain ⟨v, hv, hmoves⟩ := exec_moves i u
  exact ⟨v, hv, hmoves.engineFits hu.1, hmoves.listFits hu.1 hu.2⟩

end Sys2Proof.Machine
end

section
/-! The claim queue's invariant is kept by every move of a round, and so by every row (R21, R45, R96, R97, R103). -/

namespace Sys2Proof.Machine

/-! ### The order of the queue -/

/-- A claim is before another by its stamp, and at one stamp by its tie rank (R97). -/
theorem QueuedClaim.before_iff {tieStart : Nat} {a b : QueuedClaim} :
    a.before tieStart b = true ↔
      a.stamp < b.stamp ∨ a.stamp = b.stamp ∧ tieRank tieStart a.team < tieRank tieStart b.team := by
  simp [QueuedClaim.before]

theorem QueuedClaim.not_before_iff {tieStart : Nat} {a b : QueuedClaim} :
    a.before tieStart b = false ↔
      b.stamp < a.stamp ∨ a.stamp = b.stamp ∧ tieRank tieStart b.team ≤ tieRank tieStart a.team := by
  rw [← Bool.not_eq_true, QueuedClaim.before_iff]
  omega

theorem insertClaim_perm (tieStart : Nat) (c : QueuedClaim) (q : List QueuedClaim) :
    (insertClaim tieStart c q).Perm (c :: q) := by
  induction q with
  | nil => exact .refl _
  | cons d rest ih =>
    unfold insertClaim
    split
    · exact .refl _
    · exact (ih.cons d).trans (.swap c d rest)

theorem insertClaim_ordered {tieStart : Nat} (c : QueuedClaim) {q : List QueuedClaim}
    (h : q.Pairwise fun a b => b.before tieStart a = false) :
    (insertClaim tieStart c q).Pairwise fun a b => b.before tieStart a = false := by
  induction q with
  | nil => exact List.pairwise_singleton _ _
  | cons d rest ih =>
    obtain ⟨hhead, htail⟩ := List.pairwise_cons.mp h
    unfold insertClaim
    split
    next hbefore =>
      refine List.pairwise_cons.mpr ⟨fun b hb => ?_, h⟩
      rw [QueuedClaim.before_iff] at hbefore
      rw [QueuedClaim.not_before_iff]
      rcases List.mem_cons.mp hb with rfl | hb
      · omega
      · have hd := QueuedClaim.not_before_iff.mp (hhead b hb)
        omega
    next hbefore =>
      refine List.pairwise_cons.mpr ⟨fun b hb => ?_, ih htail⟩
      rcases List.mem_cons.mp ((insertClaim_perm tieStart c rest).mem_iff.mp hb) with rfl | hb
      · simpa using hbefore
      · exact hhead b hb

/-! ### Claims that a context allows in the queue -/

/-- What the claim queue's invariant says of one claim (R96, R103). -/
def Context.Admits (x : Context) (c : QueuedClaim) : Prop :=
  isTeamNumber c.team ∧ x.lockOf c.team = none ∧ x.holder.map Holder.team ≠ some c.team ∧
    (∃ o, x.openTime = some o ∧ o ≤ c.stamp) ∧
    ∀ e, x.timeCalled = true → x.expiryStamp = some e → c.stamp < e

/-- A lock bars no other team (R96). -/
theorem Context.lockOf_lock_of_ne (x : Context) {n m : Nat} (reason : LockReason) (hn : isTeamNumber n)
    (hm : isTeamNumber m) (hne : m ≠ n) : (x.lock n reason).lockOf m = x.lockOf m := by
  simp only [isTeamNumber, Bool.and_eq_true, decide_eq_true_eq] at hn hm
  unfold Context.lock
  split
  · rfl
  · have hindex : n - 1 ≠ m - 1 := by omega
    simp [Context.lockOf, List.getD_eq_getElem?_getD, List.getElem?_set_ne hindex]

theorem Context.Admits.lock {x : Context} {c : QueuedClaim} (h : x.Admits c) {n : Nat} (hn : isTeamNumber n)
    (hne : c.team ≠ n) (reason : LockReason) : (x.lock n reason).Admits c := by
  obtain ⟨hteam, hlock, hrest⟩ := h
  refine ⟨hteam, by rwa [x.lockOf_lock_of_ne reason hn hteam hne], ?_⟩
  unfold Context.lock
  split <;> exact hrest

theorem Context.Admits.of_agrees {x y : Context} {c : QueuedClaim} (h : x.Admits c) (hxy : x.Agrees y) : y.Admits c := by
  obtain ⟨-, -, hopen, htime, hexpiry, hholder, hlocks, -⟩ := hxy
  unfold Context.Admits Context.lockOf at h ⊢
  rwa [hopen, htime, hexpiry, hholder, hlocks]

theorem State.Claimable.admits {s : State} {c : QueuedClaim} (h : s.Claimable c) : s.context.Admits c :=
  ⟨h.team, h.free, h.offFloor, h.opened, h.inTime⟩

/-! ### Reading and building the invariant -/

/-- In a state of another phase the queue is empty (R97). -/
theorem QueueFits.queue_eq_nil {s : State} (h : QueueFits s) (hopen : s.phase ≠ .opened) (hsettling : s.phase ≠ .settling)
    (hfloor : s.phase ≠ .floor) : s.arbiter.queue = [] := by
  obtain ⟨-, -, -, -, hphase, -⟩ := h
  by_contra hne
  rcases hphase hne with h | h | h <;> contradiction

/-- The claim queue's invariant of an empty queue. -/
theorem queueFits_of_empty {s : State} (hqueue : s.arbiter.queue = [])
    (hholder : ∀ h, s.context.holder = some h → isTeamNumber h.team)
    (hkind : s.phase = .settling ∨ s.phase = .floor → s.context.kind = .buzz)
    (hdue : s.context.settleDue = true → s.engine.remembered = some .opened ∧ s.context.kind = .buzz) : QueueFits s := by
  unfold QueueFits
  rw [hqueue]
  refine ⟨.nil, by simp, by simp, hholder, by simp, fun h => hkind ?_, by simp, hdue⟩
  rcases h with h | h | h
  · exact .inl h
  · exact .inr h
  · exact absurd rfl h

theorem QueueFits.of_units {s t : State} (h : QueueFits s) (hengine : t.engine = s.engine) (harbiter : t.arbiter = s.arbiter) :
    QueueFits t := by
  have hphase : t.phase = s.phase := by unfold State.phase; rw [hengine]
  have hcontext : t.context = s.context := by unfold State.context; rw [hengine]
  unfold QueueFits at h ⊢
  rwa [hengine, harbiter, hphase, hcontext]

/-- A state with no queue, whose context has no holder and owes no change. -/
theorem queueFits_of_clear {s : State} (hqueue : s.arbiter.queue = []) (hholder : s.context.holder = none)
    (hdue : s.context.settleDue = false) (hphase : s.phase ≠ .settling ∧ s.phase ≠ .floor) : QueueFits s := by
  refine queueFits_of_empty hqueue (by simp [hholder]) (fun h => ?_) (by simp [hdue])
  rcases h with h | h
  · exact absurd h hphase.1
  · exact absurd h hphase.2

/-- No round is live, and none comes to be: the queue stays empty. -/
theorem QueueFits.of_not_live {s t : State} (h : QueueFits s) (hlive : s.live = false) (x : EngineState)
    (hx : x.live = false) (hengine : t.engine = { s.engine with state := x }) (harbiter : t.arbiter = s.arbiter) :
    QueueFits t := by
  have hs : s.engine.state = .idle ∨ s.engine.state = .cued := by
    revert hlive; unfold State.live; cases s.engine.state <;> simp [EngineState.live]
  have hphase : s.phase = s.engine.state := State.phase_of_ne_paused (by rcases hs with h | h <;> simp [h])
  have hqueue := h.queue_eq_nil (by rw [hphase]; rcases hs with h | h <;> simp [h])
    (by rw [hphase]; rcases hs with h | h <;> simp [h]) (by rw [hphase]; rcases hs with h | h <;> simp [h])
  have ht : t.phase = x := by
    rw [State.phase_of_ne_paused] <;> rw [hengine]
    rintro rfl; simp [EngineState.live] at hx
  have hcontext : t.context = s.context := by simp [State.context, hengine]
  obtain ⟨-, -, -, hholder, -, -, -, hdue⟩ := h
  refine queueFits_of_empty (by rw [harbiter, hqueue]) (by rwa [hcontext]) (fun hp => ?_) ?_
  · rw [ht] at hp; rcases hp with rfl | rfl <;> simp [EngineState.live] at hx
  · rw [hcontext, hengine]; exact hdue

theorem QueueFits.of_agrees {s t : State} (h : QueueFits s) (f : Context → Context) (hf : ∀ c : Context, c.Agrees (f c))
    (hstate : t.engine.state = s.engine.state) (hremembered : t.engine.remembered = s.engine.remembered)
    (htie : t.engine.tieStart = s.engine.tieStart) (hmap : t.engine.round = s.engine.round.map f)
    (harbiter : t.arbiter = s.arbiter) : QueueFits t := by
  have hphase : t.phase = s.phase := by unfold State.phase; rw [hstate, hremembered]
  have hagrees : s.context.Agrees t.context := by
    simp only [State.context, hmap]
    cases s.engine.round with
    | none => exact ⟨rfl, rfl, rfl, rfl, rfl, rfl, rfl, rfl⟩
    | some c => exact hf c
  obtain ⟨horder, hnodup, hclaims, hholder, hqueue, hkind, hopen, hdue⟩ := h
  unfold QueueFits
  rw [hphase, hremembered, htie, harbiter, hagrees.holder, hagrees.kind, hagrees.settleDue]
  refine ⟨horder, hnodup, fun c hc => ?_, hholder, hqueue, hkind, hopen, hdue⟩
  have hadmits : s.context.Admits c := hclaims c hc
  simpa only [Context.Admits, hagrees.holder] using hadmits.of_agrees hagrees

/-! ### The moves and the queue -/

/-- A claim that passes the checks comes while the round is open, settling or on the floor, in a pause or not (R93). -/
theorem State.Claimable.phase_cases {s : State} {c : QueuedClaim} (h : s.Claimable c) (he : EngineFits s) :
    s.phase = .opened ∨ s.phase = .settling ∨ s.phase = .floor := by
  have hkey : s.phase ≠ .tallying ∧ s.phase ≠ .awaitKey := by
    obtain ⟨-, -, -, -, hkind⟩ := he
    exact not_or.mp fun hp => hkind hp h.kind
  have hne : s.phase ≠ .idle ∧ s.phase ≠ .cued ∧ s.phase ≠ .paused := by
    by_cases hpaused : s.engine.state = .paused
    · obtain ⟨x, -, hx, hphase⟩ := he.remembered_of_paused hpaused
      rw [hphase]
      refine ⟨?_, ?_, ?_⟩ <;> rintro rfl <;> simp [EngineState.pausable] at hx
    · have hlive := h.live
      rw [State.live] at hlive
      rw [State.phase_of_ne_paused hpaused]
      refine ⟨?_, ?_, hpaused⟩ <;> intro hs <;> simp [hs, EngineState.live] at hlive
  have hreading := h.phase
  cases hp : s.phase <;> simp_all

/-- The queue with a claim placed in it that has passed the checks (R97, R98). -/
theorem QueueFits.queueWith {s : State} (h : QueueFits s) {c : QueuedClaim} (hc : s.Claimable c) :
    (s.queueWith c).Pairwise (fun a b => b.before s.engine.tieStart a = false) ∧
      ((s.queueWith c).map QueuedClaim.team).Nodup ∧ ∀ d ∈ s.queueWith c, s.context.Admits d := by
  obtain ⟨horder, hnodup, hclaims, -⟩ := h
  have hperm := insertClaim_perm s.engine.tieStart c (withoutTeam s.arbiter.queue c.team)
  refine ⟨insertClaim_ordered c (horder.filter _), ?_, fun d hd => ?_⟩
  · rw [State.queueWith, (hperm.map QueuedClaim.team).nodup_iff, List.map_cons, List.nodup_cons]
    refine ⟨?_, (List.filter_sublist.map _).nodup hnodup⟩
    simp [withoutTeam]
  · rcases List.mem_cons.mp (hperm.mem_iff.mp hd) with rfl | hd
    · exact hc.admits
    · exact hclaims d (List.mem_of_mem_filter hd)

theorem QueueFits.enqueue {s : State} (he : EngineFits s) (h : QueueFits s) {c : QueuedClaim} (hc : s.Claimable c) :
    QueueFits (s.setQueue (s.queueWith c)).settleFromOpen := by
  obtain ⟨horder, hnodup, hclaims⟩ := h.queueWith hc
  have hround := (he.round_eq_some hc.live).elim fun x hx => Option.isSome_of_eq_some hx
  have hcases := hc.phase_cases he
  obtain ⟨-, -, -, hholder, -, -, -, hdue⟩ := h
  unfold State.settleFromOpen
  split_ifs with hopen hphase
  · have hopen : s.engine.state = .opened := hopen
    refine ⟨horder, hnodup, hclaims, hholder, fun _ => .inr (.inl rfl), fun _ => hc.kind, ?_, hdue⟩
    simp [State.phase]
  · have hphase : s.phase = .opened := hphase
    have hpaused : s.engine.state = .paused ∧ s.engine.remembered = some .opened :=
      (State.phase_eq_opened.mp hphase).resolve_left hopen
    have hcontext : ((s.setQueue (s.queueWith c)).mapContext fun x => { x with settleDue := true }).context =
        { s.context with settleDue := true } := State.context_of_map (s := s) (f := fun x => { x with settleDue := true }) rfl hround
    unfold QueueFits
    rw [hcontext]
    exact ⟨horder, hnodup, hclaims, hholder, fun _ => .inl hphase, fun _ => hc.kind, fun _ _ => rfl,
      fun _ => ⟨hpaused.2, hc.kind⟩⟩
  · exact ⟨horder, hnodup, hclaims, hholder, fun _ => hcases, fun _ => hc.kind, fun hp => absurd hp hphase, hdue⟩

theorem QueueFits.replace {s : State} (he : EngineFits s) (h : QueueFits s) {c old : QueuedClaim} (hc : s.Claimable c)
    (hold : s.arbiter.claimOf c.team = some old) : QueueFits (s.setQueue (s.queueWith c)) := by
  obtain ⟨horder, hnodup, hclaims⟩ := h.queueWith hc
  have hcases := hc.phase_cases he
  have hne : s.arbiter.queue ≠ [] := List.ne_nil_of_mem (List.mem_of_find?_eq_some hold)
  obtain ⟨-, -, -, hholder, -, -, hopen, hdue⟩ := h
  exact ⟨horder, hnodup, hclaims, hholder, fun _ => hcases, fun _ => hc.kind, fun hp _ => hopen hp hne, hdue⟩

/-- A part of the queue, with the claims that stay allowed by the context they then meet. -/
theorem QueueFits.of_filter {s t : State} (h : QueueFits s) (p : QueuedClaim → Bool)
    (hqueue : t.arbiter.queue = s.arbiter.queue.filter p) (htie : t.engine.tieStart = s.engine.tieStart)
    (hadmits : ∀ c ∈ s.arbiter.queue, p c = true → s.context.Admits c → t.context.Admits c)
    (hholder : ∀ x, t.context.holder = some x → isTeamNumber x.team)
    (hphase : t.arbiter.queue ≠ [] → t.phase = .opened ∨ t.phase = .settling ∨ t.phase = .floor)
    (hkind : t.phase = .settling ∨ t.phase = .floor ∨ t.arbiter.queue ≠ [] → t.context.kind = .buzz)
    (hopen : t.phase = .opened → t.arbiter.queue ≠ [] → t.context.settleDue = true)
    (hdue : t.context.settleDue = true → t.engine.remembered = some .opened ∧ t.context.kind = .buzz) : QueueFits t := by
  obtain ⟨horder, hnodup, hclaims, -⟩ := h
  refine ⟨?_, ?_, fun c hc => ?_, hholder, hphase, hkind, hopen, hdue⟩
  · rw [hqueue, htie]; exact horder.filter _
  · rw [hqueue]; exact (List.filter_sublist.map _).nodup hnodup
  · rw [hqueue, List.mem_filter] at hc
    exact hadmits c hc.1 hc.2 (hclaims c hc.1)

theorem QueueFits.bar {s : State} (h : QueueFits s) {n : Nat} (hn : isTeamNumber n) (reason : LockReason) :
    QueueFits ((s.lockTeam n reason).setQueue (withoutTeam s.arbiter.queue n)) := by
  generalize ht : (s.lockTeam n reason).setQueue (withoutTeam s.arbiter.queue n) = t
  have hphase : t.phase = s.phase := by rw [← ht]; rfl
  have hremembered : t.engine.remembered = s.engine.remembered := by rw [← ht]; rfl
  have hqueue : t.arbiter.queue = s.arbiter.queue.filter fun c => c.team ≠ n := by rw [← ht]; rfl
  have hcontext : t.context = s.context ∨ t.context = s.context.lock n reason := by
    rw [← ht]
    simp only [State.context, State.setQueue, State.setArbiter_engine, State.lockTeam_engine]
    cases s.engine.round with
    | none => exact .inl rfl
    | some c => exact .inr rfl
  have hkept : t.context.holder = s.context.holder ∧ t.context.kind = s.context.kind ∧
      t.context.settleDue = s.context.settleDue := by
    rcases hcontext with h | h <;> rw [h]
    · exact ⟨rfl, rfl, rfl⟩
    · unfold Context.lock; split <;> exact ⟨rfl, rfl, rfl⟩
  have hsub : t.arbiter.queue ≠ [] → s.arbiter.queue ≠ [] := by
    rw [hqueue]; intro hne hnil; simp [hnil] at hne
  obtain ⟨hkeptHolder, hkeptKind, hkeptDue⟩ := hkept
  have hfits := h
  obtain ⟨-, -, -, hholder, hin, hkind, hopen, hdue⟩ := h
  refine hfits.of_filter _ hqueue (by rw [← ht]; rfl) (fun c _ hne hc => ?_) ?_ ?_ ?_ ?_ ?_
  · rcases hcontext with h | h <;> rw [h]
    · exact hc
    · exact hc.lock hn (by simpa using hne) reason
  · rwa [hkeptHolder]
  · rw [hphase]; exact fun hne => hin (hsub hne)
  · rw [hphase, hkeptKind]; exact fun hp => hkind (hp.imp_right (Or.imp_right hsub))
  · rw [hphase, hkeptDue]; exact fun hp hne => hopen hp (hsub hne)
  · rwa [hkeptDue, hremembered, hkeptKind]

theorem QueueFits.grant {s : State} (he : EngineFits s) (h : QueueFits s) {c : QueuedClaim} {rest : List QueuedClaim}
    (hsettling : s.engine.state = .settling) (hqueue : s.arbiter.queue = c :: rest) : QueueFits (s.grant c rest) := by
  have hrun := he.running (State.live_of_state hsettling rfl) (by simp [hsettling])
  have hcontext : (s.grant c rest).context = s.context.granted c (secondsMs s.setup.answerWindow) :=
    State.context_of_map (f := fun x => x.granted c (secondsMs s.setup.answerWindow)) rfl hrun.round
  obtain ⟨horder, hnodup, hclaims, -, -, hkind, -, hdue⟩ := h
  rw [hqueue] at horder hnodup hclaims hkind
  obtain ⟨hfresh, hnodup⟩ := List.nodup_cons.mp hnodup
  unfold QueueFits
  rw [hcontext]
  refine ⟨(List.pairwise_cons.mp horder).2, hnodup, fun d hd => ?_, ?_, fun _ => .inr (.inr rfl), fun _ => ?_, ?_, hdue⟩
  · obtain ⟨hteam, hlock, -, hrest⟩ := hclaims d (List.mem_cons_of_mem c hd)
    refine ⟨hteam, hlock, ?_, hrest⟩
    intro heq
    simp only [Context.granted, Option.map_some, Option.some.injEq] at heq
    exact hfresh (heq ▸ List.mem_map_of_mem hd)
  · intro x hx
    simp only [Context.granted, Option.some.injEq] at hx
    rw [← hx]
    exact (hclaims c List.mem_cons_self).1
  · exact hkind (.inr (.inr (by simp)))
  · simp [State.phase, State.grant_engine]

theorem QueueFits.callTime {s : State} (he : EngineFits s) (h : QueueFits s)
    (hstate : s.engine.state = .opened ∨ s.engine.state = .settling) (hkind : s.context.kind = .buzz) :
    QueueFits ((s.mapContext fun c => c.timeUp s.engine.clock).enter .settling).withdrawLate := by
  have hrun := he.running (by rcases hstate with h | h <;> exact State.live_of_state h rfl)
    (by rcases hstate with h | h <;> simp [h])
  generalize hu : (s.mapContext fun c => c.timeUp s.engine.clock).enter .settling = u
  have hcontext : u.context = s.context.timeUp s.engine.clock := by
    rw [← hu]; exact State.context_of_map (f := fun c => c.timeUp s.engine.clock) rfl hrun.round
  have hphase : u.withdrawLate.phase = .settling := by rw [← hu]; simp [State.phase]
  have hcontext' : u.withdrawLate.context = s.context.timeUp s.engine.clock := by
    rw [← hcontext]; simp [State.context]
  have hremembered : u.withdrawLate.engine.remembered = s.engine.remembered := by rw [← hu]; simp
  have hfits := h
  obtain ⟨-, -, -, hholder, -, -, -, hdue⟩ := h
  refine hfits.of_filter (fun c => !u.isLate c.stamp) ?_ ?_ (fun c _ hlate hc => ?_) ?_ ?_ ?_ ?_ ?_
  · rw [State.withdrawLate_arbiter, ← hu]; rfl
  · rw [← hu]; simp
  · rw [hcontext']
    obtain ⟨hteam, hlock, hfloor, hopen, -⟩ := hc
    refine ⟨hteam, hlock, hfloor, hopen, fun e _ hexpiry => ?_⟩
    simp only [Context.timeUp, Option.some.injEq] at hexpiry
    simpa [State.isLate, hcontext, Context.timeUp, hexpiry] using hlate
  · rwa [hcontext']
  · exact fun _ => .inr (.inl hphase)
  · rw [hcontext']; exact fun _ => hkind
  · simp [hphase]
  · rw [hcontext', hremembered]; exact hdue

theorem QueueFits.rebound {s : State} (he : EngineFits s) (hs : QueueFits s) {h : Holder} (v : Verdict)
    (hfloor : s.engine.state = .floor) (hholder : s.context.holder = some h) {a : Arbiter} {x : EngineState}
    (hx : (x = .opened ∧ a.queue = []) ∨ (x = .settling ∧ a.queue = s.arbiter.queue)) :
    QueueFits (((s.lockWrong h v).setArbiter a).enter x) := by
  have hrun := he.running (State.live_of_state hfloor rfl) (by simp [hfloor])
  generalize ht : ((s.lockWrong h v).setArbiter a).enter x = t
  have hcontext : t.context = s.context.wronged h.team (lockReasonOf v) :=
    State.context_of_map (s := s) (f := fun c => c.wronged h.team (lockReasonOf v))
      (by rw [← ht]; simp [State.lockWrong_engine]) hrun.round
  have hkept : t.context.holder = none ∧ t.context.kind = s.context.kind ∧ t.context.settleDue = s.context.settleDue := by
    rw [hcontext]
    unfold Context.wronged Context.lock
    split <;> exact ⟨rfl, rfl, rfl⟩
  have hremembered : t.engine.remembered = s.engine.remembered := by rw [← ht]; simp [State.lockWrong_engine]
  have hphase : t.phase = x := by
    rw [State.phase_of_ne_paused] <;> rw [← ht]
    · rfl
    · rcases hx with ⟨rfl, _⟩ | ⟨rfl, _⟩ <;> simp
  have harbiter : t.arbiter = a := by rw [← ht]; rfl
  obtain ⟨hkeptHolder, hkeptKind, hkeptDue⟩ := hkept
  have hfits := hs
  obtain ⟨-, -, -, hteam, -, hkind, -, hdue⟩ := hs
  have hbuzz : s.context.kind = .buzz := hkind (.inr (.inl (by rw [State.phase_of_ne_paused (by simp [hfloor]), hfloor])))
  have hdue' : t.context.settleDue = true → t.engine.remembered = some .opened ∧ t.context.kind = .buzz := by
    rwa [hkeptDue, hremembered, hkeptKind]
  rcases hx with ⟨rfl, hqueue⟩ | ⟨rfl, hqueue⟩
  · exact queueFits_of_empty (by rw [harbiter, hqueue]) (by simp [hkeptHolder]) (by simp [hphase]) hdue'
  · refine hfits.of_filter (fun _ => true) ?_ ?_ (fun c _ _ hc => ?_) ?_ ?_ ?_ ?_ hdue'
    · simp [harbiter, hqueue]
    · rw [← ht]; simp [State.lockWrong_engine]
    · rw [hcontext]
      obtain ⟨hnumber, hlock, hoff, hrest⟩ := hc
      refine Context.Admits.lock (x := { s.context with holder := none, answerLeft := none, wrongCount := _ })
        ⟨hnumber, hlock, by simp, hrest⟩ (hteam h hholder) ?_ _
      rintro heq
      simp [hholder, heq] at hoff
    · simp [hkeptHolder]
    · exact fun _ => .inr (.inl hphase)
    · rw [hkeptKind]; exact fun _ => hbuzz
    · simp [hphase]

theorem QueueFits.toTally {s : State} (he : EngineFits s) (h : QueueFits s)
    (hstate : s.engine.state = .opened ∨ s.engine.state = .settling) (hkind : s.context.kind ≠ .buzz) :
    QueueFits (s.enter .tallying) := by
  have hrun := he.running (by rcases hstate with h | h <;> exact State.live_of_state h rfl)
    (by rcases hstate with h | h <;> simp [h])
  obtain ⟨-, -, -, -, -, hbuzz, -, hdue⟩ := h
  refine queueFits_of_clear (by_contra fun hne => hkind (hbuzz (.inr (.inr hne)))) ?_ ?_ (by simp [State.phase])
  · exact hrun.holder (by rcases hstate with h | h <;> simp [h])
  · by_contra hne
    exact hkind (hdue (by simpa [State.context] using hne)).2

/-- Every move keeps the claim queue's invariant, where the engine's holds. -/
theorem Moves.queueFits {s t : State} (h : Moves s t) : EngineFits s → QueueFits s → QueueFits t := by
  induction h with
  | same h => exact fun _ hs => hs.of_units h.engine h.arbiter
  | trans h _ ih₁ ih₂ => exact fun he hs => ih₂ (h.engineFits he) (ih₁ he hs)
  | reset _ _ hstate hremembered hround hqueue =>
    exact fun _ _ => queueFits_of_clear hqueue (by simp [State.context, hround, Context.blank])
      (by simp [State.context, hround, Context.blank]) (by simp [State.phase, hstate])
  | slot k x _ => exact fun _ hs => hs.of_units rfl rfl
  | park hlive _ hengine harbiter k reason basis =>
    exact fun _ hs => hs.of_not_live hlive .idle rfl (by simp [hengine]) (by simp [harbiter])
  | cue hlive j _ => exact fun _ hs => hs.of_not_live hlive .cued rfl rfl rfl
  | @start s hcued =>
    intro _ hs
    have hphase : s.phase = .cued := by rw [State.phase_of_ne_paused (by simp [hcued]), hcued]
    exact queueFits_of_clear (hs.queue_eq_nil (by simp [hphase]) (by simp [hphase]) (by simp [hphase])) rfl rfl
      (by simp [State.start, State.phase])
  | @openRound s hreading =>
    intro he hs
    have hrun := he.running (State.live_of_state hreading rfl) (by simp [hreading])
    have hphase : s.phase = .reading := by rw [State.phase_of_ne_paused (by simp [hreading]), hreading]
    have hcontext : s.openRound.context = s.context.opened s.engine.clock s.setup.timeLimitMs :=
      State.context_of_map (f := fun c => c.opened s.engine.clock s.setup.timeLimitMs) rfl hrun.round
    refine queueFits_of_clear (hs.queue_eq_nil (by simp [hphase]) (by simp [hphase]) (by simp [hphase])) ?_ ?_
      (by simp [State.openRound, State.phase])
    · rw [hcontext]; exact hrun.holder (by simp [hreading])
    · obtain ⟨-, -, -, -, -, -, -, hdue⟩ := hs
      rw [hcontext]
      show s.context.settleDue = false
      by_contra hne
      simpa [hrun.remembered] using (hdue (by simpa using hne)).1
  | context clock f hf => exact fun _ hs => hs.of_agrees f hf rfl rfl rfl rfl rfl
  | @pause s hpausable =>
    intro he hs
    have hstate : s.engine.state ≠ .paused := by intro hp; simp [hp, EngineState.pausable] at hpausable
    have hphase : s.pause.phase = s.phase := by simp [State.pause, State.phase, hstate]
    obtain ⟨horder, hnodup, hclaims, hholder, hin, hkind, hopen, hdue⟩ := hs
    unfold QueueFits
    rw [hphase]
    refine ⟨horder, hnodup, hclaims, hholder, hin, hkind, hopen, fun h => ?_⟩
    simpa [he.remembered_eq_none hstate] using (hdue h).1
  | @resume s hpaused hnot =>
    intro he hs
    obtain ⟨x, -, hx, hphase⟩ := he.remembered_of_paused hpaused
    have hphase' : s.unpause.phase = s.phase :=
      State.phase_of_ne_paused (by show s.phase ≠ .paused; rw [hphase]; rintro rfl; simp [EngineState.pausable] at hx)
    obtain ⟨horder, hnodup, hclaims, hholder, hin, hkind, hopen, hdue⟩ := hs
    unfold QueueFits
    rw [hphase']
    refine ⟨horder, hnodup, hclaims, hholder, hin, hkind, hopen, fun h => absurd ⟨?_, h⟩ hnot⟩
    simp [State.phase, hpaused, (hdue h).1]
  | @resumeDue s hpaused hphase hsettle =>
    intro he hs
    obtain ⟨c, hc⟩ := he.round_eq_some (State.live_of_state hpaused rfl)
    have hcontext : s.unpause.settleNow.context = { s.context with settleDue := false } :=
      State.context_of_map (s := s) (f := fun c => { c with settleDue := false }) rfl (by simp [hc])
    obtain ⟨horder, hnodup, hclaims, hholder, -, -, -, hdue⟩ := hs
    unfold QueueFits
    rw [hcontext]
    exact ⟨horder, hnodup, hclaims, hholder, fun _ => .inr (.inl rfl), fun _ => (hdue hsettle).2,
      by simp [State.settleNow, State.phase], by simp⟩
  | @close s u _ o w k =>
    intro _ _
    have hcontext : ((u.closeRound o w).followFrom k).context = u.context.closed := by
      rw [← u.closeRound_context o w]
      rcases (u.closeRound o w).followFrom_engine k with h | h <;> simp [State.context, h]
    refine queueFits_of_clear (by simp) (by rw [hcontext]; rfl) (by rw [hcontext]; rfl) ?_
    rcases (u.closeRound o w).followFrom_engine k with h | h <;> simp [State.phase, h]
  | grant c rest hsettling hqueue => exact fun he hs => hs.grant he hsettling hqueue
  | enqueue c hc => exact fun he hs => hs.enqueue he hc
  | replace c old hc hold => exact fun he hs => hs.replace he hc hold
  | bar n reason hn => exact fun _ hs => hs.bar hn reason
  | callTime hstate hkind => exact fun he hs => hs.callTime he hstate hkind
  | rebound h v hfloor hholder a x hx => exact fun he hs => hs.rebound he v hfloor hholder hx
  | toTally hstate hkind => exact fun he hs => hs.toTally he hstate hkind
  | @toAwaitKey s hstate hkind =>
    intro he hs
    have hrun := he.running (State.live_of_state hstate rfl) (by simp [hstate])
    have hphase : s.phase = .tallying := by rw [State.phase_of_ne_paused (by simp [hstate]), hstate]
    refine queueFits_of_clear (hs.queue_eq_nil (by simp [hphase]) (by simp [hphase]) (by simp [hphase]))
      (hrun.holder (by simp [hstate])) ?_ (by simp [State.phase])
    obtain ⟨-, -, -, -, -, -, -, hdue⟩ := hs
    show s.context.settleDue = false
    by_contra hne
    simpa [hkind] using (hdue (by simpa using hne)).2

/-- Settles O8: every row is a chain of moves, and every move keeps the claim queue's invariant. -/
theorem claimQueueKeepsFitting : Obligations.ClaimQueueKeepsFitting := by
  intro s t he hs hst
  refine (step_keeps (P := fun u => EngineFits u ∧ QueueFits u) (fun _ _ h => ⟨h.1.of_engine rfl, h.2.of_units rfl rfl⟩)
    (fun i u hu => ?_) ⟨he, hs⟩ hst).2
  obtain ⟨v, hv, hmoves⟩ := exec_moves i u
  exact ⟨v, hv, hmoves.engineFits hu.1, hmoves.queueFits hu.1 hu.2⟩

end Sys2Proof.Machine
end

section
/-! The ranges of the standings: a chain of score changes keeps them, every operation of a round makes such a chain, and so
every row keeps them (R132, R133, R138, R155, R158). -/

namespace Sys2Proof.Machine

/-! ### Records in range -/

theorem TeamRecord.reset_inRange : TeamInRange TeamRecord.reset := by
  simp [TeamInRange, TeamRecord.reset]

theorem StandingsInRange.teamAt {x : Standings} (h : StandingsInRange x) (n : Nat) : TeamInRange (x.teamAt n) := by
  obtain ⟨hteams, -⟩ := h
  unfold Standings.teamAt
  rw [List.getD_eq_getElem?_getD]
  cases hn : x.teams[n - 1]? with
  | none => exact TeamRecord.reset_inRange
  | some r => exact hteams r (List.mem_of_getElem? hn)

theorem StandingsInRange.houseAt {x : Standings} (h : StandingsInRange x) (n : Nat) : HouseInRange (x.houseAt n) := by
  obtain ⟨-, -, hhouses, -⟩ := h
  unfold Standings.houseAt
  rw [List.getD_eq_getElem?_getD]
  cases hn : x.houses[n - 1]? with
  | none => simp [HouseInRange, HouseRecord.reset]
  | some r => exact hhouses r (List.mem_of_getElem? hn)

/-- One record replaced by one in range. -/
theorem forall_mem_set {α : Type} {P : α → Prop} {l : List α} (h : ∀ r ∈ l, P r) (n : Nat) {x : α} (hx : P x) :
    ∀ r ∈ l.set n x, P r := by
  intro r hr
  rcases List.mem_or_eq_of_mem_set hr with hr | rfl
  · exact h r hr
  · exact hx

theorem streakAfter_le {source : ScoreSource} {v : Option Verdict} {n : Nat} (h : n ≤ 9) : streakAfter source v n ≤ 9 := by
  unfold streakAfter
  repeat' split
  all_goals omega

theorem correctAfter_le {v : Option Verdict} {n : Nat} (h : n ≤ 255) : correctAfter v n ≤ 255 := by
  unfold correctAfter
  split
  · exact bump_le _ _
  · exact h

theorem wrongAfter_le {v : Option Verdict} {n : Nat} (h : n ≤ 255) : wrongAfter v n ≤ 255 := by
  unfold wrongAfter
  split
  · exact bump_le _ _
  · exact h

theorem TeamInRange.changed {r : TeamRecord} (h : TeamInRange r) (q : ScoreRequest) {counter : Nat}
    (hcounter : counter ≤ counterMax) : TeamInRange (r.changed q counter) := by
  obtain ⟨hhouse, -, -, hstreak, hcorrect, hwrong, hsequence⟩ := h
  obtain ⟨hlow, hhigh⟩ := clampScore_range (q.move.wanted r.score)
  refine ⟨hhouse, hlow, hhigh, streakAfter_le hstreak, correctAfter_le hcorrect, wrongAfter_le hwrong, ?_⟩
  show (if _ then _ else _) ≤ counterMax
  split
  · exact hsequence
  · exact hcounter

theorem StandingsInRange.counterAfter_le {x : Standings} (h : StandingsInRange x) (q : ScoreRequest) :
    q.counterAfter x ≤ counterMax := by
  obtain ⟨-, hcounter, -⟩ := h
  unfold ScoreRequest.counterAfter
  split
  · exact hcounter
  · exact bump_le _ _

theorem noStreaks_inRange {teams : List TeamRecord} (h : ∀ r ∈ teams, TeamInRange r) : ∀ r ∈ noStreaks teams, TeamInRange r := by
  intro r hr
  obtain ⟨r', hr', rfl⟩ := List.mem_map.mp hr
  obtain ⟨hhouse, hlow, hhigh, -, hrest⟩ := h r' hr'
  exact ⟨hhouse, hlow, hhigh, Nat.zero_le _, hrest⟩

/-- One score change keeps the ranges (R138 to R140). -/
theorem StandingsInRange.apply {x : Standings} (h : StandingsInRange x) (q : ScoreRequest) : StandingsInRange (x.apply q) := by
  have hcounter := h.counterAfter_le q
  have hteam := (h.teamAt q.team).changed q hcounter
  obtain ⟨hteams, -, hhouses, hplaces⟩ := h
  refine ⟨forall_mem_set ?_ _ hteam, hcounter, hhouses, hplaces⟩
  split
  · exact noStreaks_inRange hteams
  · exact hteams

/-! ### Chains of score changes -/

/-- From `s` to `t` the standings have changed by score requests only. -/
def Scored (s t : State) : Prop := ∃ qs : List ScoreRequest, t.standings = qs.foldl Standings.apply s.standings

theorem Scored.of_eq {s t : State} (h : t.standings = s.standings) : Scored s t := ⟨[], h⟩

theorem Scored.refl (s : State) : Scored s s := .of_eq rfl

theorem Scored.trans {s t u : State} : Scored s t → Scored t u → Scored s u := by
  rintro ⟨p, hp⟩ ⟨q, hq⟩
  exact ⟨p ++ q, by rw [List.foldl_append, ← hp, hq]⟩

theorem Scored.one {s t : State} (q : ScoreRequest) (h : t.standings = s.standings.apply q) : Scored s t := ⟨[q], h⟩

theorem Scored.inRange {s t : State} (h : Scored s t) (hs : StandingsInRange s.standings) : StandingsInRange t.standings := by
  obtain ⟨qs, hqs⟩ := h
  rw [hqs]
  clear hqs
  generalize s.standings = x at hs
  induction qs generalizing x with
  | nil => exact hs
  | cons q qs ih => exact ih _ (hs.apply q)

/-! ### The operations of a round -/

theorem State.penalise_scored (s : State) (n : Nat) : Scored s (s.penalise n) := .one _ rfl

theorem State.withdrawLocked_scored (s : State) (n : Nat) : Scored s (s.withdrawLocked n) := .of_eq (by simp)

theorem State.falseStartPenalise_scored (s : State) (o : Offer) : Scored s (s.falseStartPenalise o) := by
  unfold State.falseStartPenalise
  dsimp only
  generalize hu : (if (s.arbiter.claimOf o.team).isSome = true then _ else _) = u
  have hscored : Scored s u := by
    rw [← hu]
    split_ifs
    · exact .trans (.trans (.of_eq (by simp)) (State.penalise_scored _ _)) (State.withdrawLocked_scored _ _)
    · exact .trans (.of_eq (by simp)) (State.penalise_scored _ _)
    · exact .trans (.of_eq (by simp)) (State.penalise_scored _ _)
  split
  · exact hscored.trans (.of_eq (by simp))
  · exact hscored

theorem State.offer_scored (s : State) (o : Offer) : Scored s (s.offer o) := by
  unfold State.offer
  split
  case h_4 => exact s.falseStartPenalise_scored o
  all_goals exact .of_eq (by simp)

theorem State.judgeRight_scored (s : State) (h : Holder) : Scored s (s.judgeRight h) :=
  .one (rightRequest s.setup s.standings h.team h.stamp (s.context.openTime.getD 0)) (by simp [State.judgeRight])

theorem State.afterWrong_standings (s : State) (f : Follows) : (s.afterWrong f).standings = s.standings := by simp

theorem State.judgeWrong_scored (s : State) (h : Holder) (v : Verdict) : Scored s (s.judgeWrong h v) := by
  unfold State.judgeWrong
  dsimp only
  refine .trans ?_ (.of_eq (State.afterWrong_standings _ _))
  split
  · exact .one (wrongRequest s.setup h.team v) (by simp)
  · exact .of_eq (by simp)

theorem State.payShares_scored {s u : State} (h : u.standings = s.standings) (y : Tally) : Scored s (u.payShares y) :=
  ⟨y.requests, by simp [State.payShares, h]⟩

theorem State.completeTally_scored (s : State) : Scored s s.completeTally := by
  unfold State.completeTally State.completeChoice
  dsimp only
  repeat' split
  · exact State.payShares_scored (by simp) _
  all_goals exact .of_eq (by simp)

theorem State.testTally_scored (s : State) : Scored s s.testTally := by
  unfold State.testTally
  repeat' split
  · exact s.completeTally_scored
  all_goals exact .refl s

theorem State.enterTallying_scored (s : State) : Scored s s.enterTallying := by
  unfold State.enterTallying
  exact .trans (.of_eq (by simp)) (State.testTally_scored _)

theorem State.keyTally_scored (s : State) (k : OptKey) : Scored s (s.keyTally k) := by
  unfold State.keyTally
  split
  · exact State.payShares_scored (by simp) _
  · exact .of_eq (by simp)

theorem State.roundTimeUp_scored (s : State) : Scored s s.roundTimeUp := by
  unfold State.roundTimeUp
  split
  · exact .of_eq (by simp)
  · exact .trans (.of_eq (by simp)) (State.enterTallying_scored _)

theorem State.answerTimeUp_scored (s : State) (h : Holder) : Scored s (s.answerTimeUp h) :=
  .trans (.of_eq (by simp)) (State.judgeWrong_scored _ _ _)

theorem State.judgeBy_scored (s : State) (h : Holder) (right : Bool) : Scored s (s.judgeBy h right) := by
  cases right
  · exact s.judgeWrong_scored h .wrong
  · exact s.judgeRight_scored h

theorem State.acceptPress_scored (s : State) (n : Nat) : Scored s (s.acceptPress n) := by
  unfold State.acceptPress State.offerPress
  dsimp only
  repeat' split
  any_goals exact .of_eq rfl
  exact .trans (.of_eq rfl) (State.offer_scored _ _)

theorem State.handleKey_scored (s : State) (e : FifoEntry) (p n : Option Nat) : Scored s (s.handleKey e p n) := by
  unfold State.handleKey State.checkRound State.dispatch State.dispatchBuzz
  repeat' split
  any_goals exact .of_eq rfl
  · exact s.offer_scored _
  · exact .of_eq (by simp)

theorem State.handle_scored (s : State) (e : FifoEntry) : Scored s (s.handle e) := by
  unfold State.handle State.handleRoster
  repeat' split
  · exact .of_eq rfl
  · exact .trans (.of_eq (by simp)) (State.handleKey_scored _ e _ _)
  · exact s.handleKey_scored e none none
  · exact .of_eq rfl

theorem State.completeTake_scored (s : State) (e : FifoEntry) : Scored s (s.completeTake e) := by
  unfold State.completeTake
  exact (s.handle_scored e).trans (.trans (.of_eq (by simp)) (State.testTally_scored _))

/-! ### Every row -/

theorem Standings.cleared_inRange {x : Standings} (h : StandingsInRange x) : StandingsInRange x.cleared := by
  obtain ⟨hteams, -, hrest⟩ := h
  refine ⟨fun r hr => ?_, Nat.zero_le _, hrest⟩
  obtain ⟨r', hr', rfl⟩ := List.mem_map.mp hr
  obtain ⟨hhouse, -⟩ := hteams r' hr'
  simpa [TeamInRange, TeamRecord.cleared] using hhouse

theorem Standings.houseAfter_inRange {x : Standings} (h : StandingsInRange x) (m : CommitMethod) (n : Nat) :
    HouseInRange (x.houseAfter m n) := by
  unfold Standings.houseAfter
  split
  · exact h.houseAt n
  · refine ⟨?_, ?_, bump_le _ _⟩ <;> simp only [Standings.totalAfter, clampInt] <;> omega

theorem Standings.committed_inRange {x : Standings} (h : StandingsInRange x) (m : CommitMethod) :
    StandingsInRange (x.committed m) := by
  obtain ⟨hteams, hcounter, -, hplaces⟩ := Standings.cleared_inRange h
  refine ⟨hteams, hcounter, fun r hr => ?_, hplaces⟩
  obtain ⟨n, -, rfl⟩ := List.mem_map.mp hr
  exact Standings.houseAfter_inRange h m n

theorem Standings.reset_inRange : StandingsInRange Standings.reset := by
  refine ⟨fun r hr => ?_, Nat.zero_le _, fun r hr => ?_, by decide⟩
  · rw [List.eq_of_mem_replicate hr]; exact TeamRecord.reset_inRange
  · rw [List.eq_of_mem_replicate hr]; simp [HouseInRange, HouseRecord.reset]

theorem State.abandonForReset_standings (s : State) : s.abandonForReset.standings = s.standings := by
  unfold State.abandonForReset; split <;> simp

/-- The work of a command keeps the ranges. -/
theorem carry_standingsInRange {i : Instr} {carry : State → Carried} (h : carryOf i = some carry)
    (hreach : Part.standings ∈ reach i) {s : State} (hs : StandingsInRange s.standings) :
    StandingsInRange (carry s).state.standings := by
  cases i with
  | closeRound =>
    cases h; unfold carryCloseRound
    split
    · exact s.enterTallying_scored.inRange hs
    · exact hs
  | revealKey o =>
    cases h; unfold carryRevealKey
    repeat' split
    any_goals exact hs
    exact (s.keyTally_scored _).inRange hs
  | judge v =>
    cases h; unfold carryJudge
    repeat' split
    any_goals exact hs
    exact (s.judgeBy_scored _ _).inRange hs
  | setTeam team nameLength name playing house =>
    cases h; unfold carrySetTeam State.storeTeam
    repeat' split
    any_goals exact hs
    next n _ _ _ _ _ hhouse _ =>
      have hteam := hs.teamAt n
      obtain ⟨hteams, hrest⟩ := hs
      obtain ⟨-, hteam⟩ := hteam
      simp only [State.done_state, State.raise_frame, State.setStandings_standings]
      exact ⟨forall_mem_set hteams _ ⟨by show house.toNat ≤ 6; omega, hteam⟩, hrest⟩
  | adjustScore team delta | setScore team target =>
    cases h
    simp only [carryAdjustScore, carrySetScore]
    repeat' split
    any_goals exact hs
    exact hs.apply _
  | setTieDisplay option =>
    cases h; unfold carrySetTieDisplay
    split <;> exact hs
  | freeze =>
    cases h; unfold carryFreeze
    repeat' split
    all_goals exact hs
  | unfreeze =>
    cases h; unfold carryUnfreeze
    split <;> exact hs
  | setHouse house nameLength name shown total games =>
    cases h; unfold carrySetHouse State.storeHouse
    repeat' split
    any_goals exact hs
    next htotal =>
      simp only [houseTotalOk, Bool.and_eq_true, decide_eq_true_eq] at htotal
      obtain ⟨hteams, hcounter, hhouses, hplaces⟩ := hs
      simp only [State.done_state, State.raise_frame, State.setStandings_standings]
      exact ⟨hteams, hcounter, forall_mem_set hhouses _ ⟨htotal.2.1, htotal.2.2, by have := games.isLt; simp; omega⟩, hplaces⟩
  | setPlacePoints points =>
    cases h; unfold carrySetPlacePoints
    split
    next hpoints =>
      obtain ⟨hteams, hcounter, hhouses, -⟩ := hs
      refine ⟨hteams, hcounter, hhouses, fun p hp => ?_⟩
      obtain ⟨b, hb, rfl⟩ := List.mem_map.mp hp
      simpa using List.all_eq_true.mp hpoints b hb
    · exact hs
  | commitGame method =>
    cases h; unfold carryCommitGame
    repeat' split
    any_goals exact hs
    exact Standings.committed_inRange hs _
  | _ => first | exact absurd hreach (not_mem_reach rfl) | cases h

theorem exec_standingsInRange (i : Instr) {s : State} (hs : StandingsInRange s.standings) :
    ∃ t, exec i s = .next t ∧ StandingsInRange t.standings := by
  by_cases hreach : Part.standings ∈ reach i
  case neg =>
    obtain ⟨t, ht, hframe⟩ := exec_frame i s
    exact ⟨t, ht, by rwa [hframe.standings hreach]⟩
  cases hcarry : carryOf i with
  | some carry =>
    rw [exec_of_carry hcarry]
    refine desk_keeps (P := fun u => StandingsInRange u.standings) hs (fun h => by simpa using h) fun u _ hu => ?_
    simpa using carry_standingsInRange hcarry hreach hu
  | none =>
    cases i with
    | hardReset => exact ⟨_, rfl, Standings.reset_inRange⟩
    | showResetExecute =>
      refine ⟨_, rfl, ?_⟩
      split
      · show StandingsInRange s.abandonForReset.standings.cleared
        rw [State.abandonForReset_standings]
        exact Standings.cleared_inRange hs
      · exact hs
    | roundTimerExpiry =>
      refine ⟨_, rfl, ?_⟩
      split
      · exact s.roundTimeUp_scored.inRange hs
      · exact hs
    | answerTimerExpiry =>
      refine ⟨_, rfl, ?_⟩
      repeat' split
      · exact (s.answerTimeUp_scored _).inRange hs
      all_goals exact hs
    | linePressAccepted n =>
      refine ⟨_, rfl, ?_⟩
      split
      · exact (s.acceptPress_scored n).inRange hs
      · exact hs
    | takeComplete =>
      refine ⟨_, rfl, ?_⟩
      repeat' split
      · exact (s.completeTake_scored _).inRange hs
      all_goals exact hs
    | _ => first | exact absurd hreach (not_mem_reach rfl) | cases hcarry

/-- Settles O5: every row changes the standings by score changes, by a record in range or by a reset. -/
theorem standingsStayInRange : Obligations.StandingsStayInRange := by
  intro s t hs hst
  exact step_keeps (P := fun u => StandingsInRange u.standings) (fun _ _ h => h) (fun i u hu => exec_standingsInRange i hu)
    hs hst

end Sys2Proof.Machine
end

section
/-! The roster and the boards keep fitting along every row (R85, R165, R167, R173), and every invariant holds at reset. -/

namespace Sys2Proof.Machine

/-! ### The roster -/

/-- No two positions of a roster hold the same handset. -/
def DistinctHandsets (l : List (Option RosterEntry)) : Prop :=
  ∀ (i j : Nat) (x y : RosterEntry), l[i]? = some (some x) → l[j]? = some (some y) → x.handset = y.handset → i = j

theorem nodup_handsets_iff (l : List (Option RosterEntry)) :
    ((l.filterMap id).map RosterEntry.handset).Nodup ↔ DistinctHandsets l := by
  rw [List.Nodup, List.pairwise_map, List.pairwise_filterMap, List.pairwise_iff_getElem]
  constructor
  · intro h i j x y hi hj heq
    obtain ⟨hi', hix⟩ := List.getElem?_eq_some_iff.mp hi
    obtain ⟨hj', hjy⟩ := List.getElem?_eq_some_iff.mp hj
    rcases Nat.lt_trichotomy i j with hij | hij | hij
    · exact absurd heq (h i j hi' hj' hij x hix y hjy)
    · exact hij
    · exact absurd heq.symm (h j i hj' hi' hij y hjy x hix)
  · intro h i j hi hj hij x hx y hy heq
    have := h i j x y (List.getElem?_eq_some_iff.mpr ⟨hi, hx⟩) (List.getElem?_eq_some_iff.mpr ⟨hj, hy⟩) heq
    omega

theorem rosterFits_iff (x : Intake) : RosterFits x ↔ x.roster.length = 192 ∧ DistinctHandsets x.roster := by
  rw [RosterFits, nodup_handsets_iff]

/-- A position is written with an entry whose handset no other position holds. -/
theorem RosterFits.setRosterAt {x : Intake} (h : RosterFits x) (p : Nat) (v : Option RosterEntry)
    (hv : ∀ r ∈ v, ∀ j y, x.roster[j]? = some (some y) → y.handset = r.handset → j = p) : RosterFits (x.setRosterAt p v) := by
  rw [rosterFits_iff] at h ⊢
  obtain ⟨hlength, hdistinct⟩ := h
  refine ⟨by simpa [Intake.setRosterAt] using hlength, fun i j a b hi hj heq => ?_⟩
  simp only [Intake.setRosterAt, List.getElem?_set] at hi hj
  split_ifs at hi hj with hpi hbound hpj hpj
  · rw [← hpi, ← hpj]
  · exact hpi ▸ (hv a (by simpa using hi) j b hj heq.symm).symm
  · exact hpj ▸ hv b (by simpa using hj) i a hi heq
  · exact hdistinct i j a b hi hj heq

/-- An entry of the roster is replaced by one of the same handset. -/
theorem RosterFits.update {x : Intake} (h : RosterFits x) {p : Nat} {r r' : RosterEntry} (hp : x.rosterAt p = some r)
    (hr : r'.handset = r.handset) : RosterFits (x.setRosterAt p (some r')) := by
  refine h.setRosterAt p _ fun a ha j y hj heq => ?_
  obtain rfl : r' = a := by simpa using ha
  have hp' : x.roster[p]? = some (some r) := by
    unfold Intake.rosterAt at hp
    rw [List.getD_eq_getElem?_getD] at hp
    cases hget : x.roster[p]? with
    | none => simp [hget] at hp
    | some v => simpa [hget] using hp
  exact ((rosterFits_iff x).mp h).2 j p y r hj hp' (heq.trans hr)

/-- No position holds a handset that has none. -/
theorem Intake.positionOf_eq_none {x : Intake} {h : BitVec 16} (hp : x.positionOf h = none) {j : Nat} {y : RosterEntry}
    (hj : x.roster[j]? = some (some y)) : y.handset ≠ h := by
  have hnone := List.findIdx?_eq_none_iff.mp hp (some y) (List.mem_of_getElem? hj)
  simpa using hnone

theorem Intake.rosterEntryOf_rosterAt {x : Intake} {h : BitVec 16} {p : Nat} {r : RosterEntry}
    (hx : x.rosterEntryOf h = some (p, r)) : x.rosterAt p = some r := by
  simp only [Intake.rosterEntryOf, Option.bind_eq_some_iff, Option.map_eq_some_iff, Prod.mk.injEq] at hx
  obtain ⟨q, -, r', hr', rfl, rfl⟩ := hx
  exact hr'

theorem RosterFits.of_roster {x y : Intake} (h : RosterFits x) (hroster : y.roster = x.roster) : RosterFits y := by
  unfold RosterFits at h ⊢
  rwa [hroster]

/-- The roster with every entry replaced by one of the same handset. -/
theorem RosterFits.map {x y : Intake} (h : RosterFits x) (f : RosterEntry → RosterEntry) (hf : ∀ r, (f r).handset = r.handset)
    (hroster : y.roster = x.roster.map (Option.map f)) : RosterFits y := by
  rw [rosterFits_iff] at h ⊢
  obtain ⟨hlength, hdistinct⟩ := h
  refine ⟨by simpa [hroster] using hlength, fun i j a b hi hj heq => ?_⟩
  simp only [hroster, List.getElem?_map, Option.map_eq_some_iff] at hi hj
  obtain ⟨_, hi, a', rfl, rfl⟩ := hi
  obtain ⟨_, hj, b', rfl, rfl⟩ := hj
  exact hdistinct i j a' b' hi hj (by rwa [hf, hf] at heq)

theorem rosterFits_of_empty {x : Intake} (hlength : x.roster.length = 192) (hnone : ∀ r ∈ x.roster, r = none) : RosterFits x := by
  rw [rosterFits_iff]
  refine ⟨hlength, fun i _ _ _ hi _ _ => ?_⟩
  simpa using hnone _ (List.mem_of_getElem? hi)

/-! ### The pad port and takes leave the roster, but for the update of an entry -/

@[simp] theorem State.countRefused_roster (s : State) (r : Nat) : (s.countRefused r).intake.roster = s.intake.roster := by
  unfold State.countRefused; split <;> rfl

@[simp] theorem State.badFrame_roster (s : State) (x : BadFrameReason) (r : Option Byte) :
    (s.badFrame x r).intake.roster = s.intake.roster := by
  unfold State.badFrame; split <;> simp

@[simp] theorem State.runt_roster (s : State) (received : List Byte) : (s.runt received).intake.roster = s.intake.roster := by
  simp [State.runt, State.padWaits]

@[simp] theorem State.overrunDrop_roster (s : State) (r : Nat) : (s.overrunDrop r).intake.roster = s.intake.roster := by
  unfold State.overrunDrop; dsimp only; split <;> simp

@[simp] theorem State.padByteOutside_roster (s : State) (b : Byte) :
    (s.padByteOutside b).intake.roster = s.intake.roster := by
  unfold State.padByteOutside; split <;> rfl

@[simp] theorem State.padFrame_roster (s : State) (f : PadFrame) : (s.padFrame f).intake.roster = s.intake.roster := by
  unfold State.padFrame State.arrive
  repeat' split
  · simp
  · rfl
  · simp

@[simp] theorem State.padByte_roster (s : State) (b : Byte) : (s.padByte b).intake.roster = s.intake.roster := by
  unfold State.padByte State.padByteInside
  repeat' split
  · simp
  · simp
  · rw [State.padFrame_roster]; rfl
  · rfl

@[simp] theorem State.padBytes_roster (s : State) (bytes : List Byte) :
    (bytes.foldl State.padByte s).intake.roster = s.intake.roster := by
  induction bytes generalizing s with
  | nil => rfl
  | cons b bytes ih => exact (ih _).trans (s.padByte_roster b)

@[simp] theorem State.handleKey_roster (s : State) (e : FifoEntry) (p n : Option Nat) :
    (s.handleKey e p n).intake.roster = s.intake.roster := by
  unfold State.handleKey State.checkRound
  repeat' split
  all_goals simp

theorem State.handle_rosterFits {s : State} (e : FifoEntry) (h : RosterFits s.intake) : RosterFits (s.handle e).intake := by
  unfold State.handle
  split
  next p r hentry =>
    unfold State.handleRoster
    split
    · exact h.of_roster rfl
    · refine RosterFits.of_roster (x := s.intake.setRosterAt p (some (r.updated e))) ?_ (by simp [State.updateRoster])
      exact h.update (Intake.rosterEntryOf_rosterAt hentry) rfl
  · split
    · exact h.of_roster (by simp)
    · exact h.of_roster (by simp)

/-- The work of a command keeps the roster's invariant. -/
theorem carry_rosterFits {i : Instr} {carry : State → Carried} (h : carryOf i = some carry) (hreach : Part.intake ∈ reach i)
    {s : State} (hs : RosterFits s.intake) : RosterFits (carry s).state.intake := by
  cases i with
  | setReceiver receiver enabled offset =>
    cases h; unfold carrySetReceiver
    repeat' split
    all_goals exact hs.of_roster rfl
  | enroll handset team seat =>
    cases h; unfold carryEnroll
    split
    · exact hs
    split
    · exact hs
    split
    · exact hs
    next hfree =>
    split
    · refine hs.setRosterAt _ _ fun r hr j y hj heq => ?_
      obtain rfl : RosterEntry.enrolled handset team.toNat seat.toNat = r := by simpa using hr
      exact absurd heq (Intake.positionOf_eq_none (h := handset) (by simpa using hfree) hj)
    · exact hs
  | withdraw handset =>
    cases h; unfold carryWithdraw
    repeat' split
    any_goals exact hs
    exact hs.setRosterAt _ none (by simp)
  | move handset team seat =>
    cases h; unfold carryMove
    repeat' split
    any_goals exact hs
    next hentry => exact hs.update (Intake.rosterEntryOf_rosterAt hentry) rfl
  | clearRoster =>
    cases h; unfold carryClearRoster
    split
    · exact hs
    · exact rosterFits_of_empty (by simpa using hs.1) (by simp)
  | setGuestMap positions =>
    cases h; unfold carrySetGuestMap
    split <;> exact hs.of_roster rfl
  | _ => first | exact absurd hreach (not_mem_reach rfl) | cases h

theorem exec_rosterFits (i : Instr) {s : State} (hs : RosterFits s.intake) :
    ∃ t, exec i s = .next t ∧ RosterFits t.intake := by
  by_cases hreach : Part.intake ∈ reach i
  case neg =>
    obtain ⟨t, ht, hframe⟩ := exec_frame i s
    exact ⟨t, ht, by rwa [hframe.intake hreach]⟩
  cases hcarry : carryOf i with
  | some carry =>
    rw [exec_of_carry hcarry]
    refine desk_keeps (P := fun u => RosterFits u.intake) hs (fun h => by simpa using h) fun u _ hu => ?_
    simpa using carry_rosterFits hcarry hreach hu
  | none =>
    cases i with
    | hardReset => exact ⟨_, rfl, rosterFits_of_empty List.length_replicate fun _ hr => List.eq_of_mem_replicate hr⟩
    | showResetExecute =>
      refine ⟨_, rfl, ?_⟩
      split
      · exact hs.map RosterEntry.showReset (fun _ => rfl) (by rw [State.showReset_intake]; rfl)
      · exact hs
    | padFrameArrival f => exact ⟨_, rfl, hs.of_roster (State.padBytes_roster _ _)⟩
    | padByteReceived b => exact ⟨_, rfl, hs.of_roster (State.padByte_roster _ _)⟩
    | padRunt =>
      refine ⟨_, rfl, ?_⟩
      repeat' split
      · exact hs.of_roster (State.runt_roster _ _)
      all_goals exact hs
    | takeComplete =>
      refine ⟨_, rfl, ?_⟩
      repeat' split
      next e _ _ _ => exact (State.handle_rosterFits e hs).of_roster (by simp [State.completeTake, Intake.pop])
      all_goals exact hs
    | tick levels =>
      refine ⟨_, rfl, hs.of_roster ?_⟩
      simp only [State.ticked, State.setLink_intake, State.setBoard_intake, State.setIntake_intake, Intake.ticked]
      split <;> rfl
    | _ => first | exact absurd hreach (not_mem_reach rfl) | cases hcarry

/-! ### The boards -/

/-- The board's invariant reads the held marks, the state and the snapshot. -/
theorem BoardFits.of_held {b c : Board} (h : BoardFits b) (hstate : c.state = b.state) (hsnapshot : c.snapshot = b.snapshot)
    (hlines : c.lineHeld = b.lineHeld) (hpanels : (∀ r ∈ b.panels, r.held = false) → ∀ r ∈ c.panels, r.held = false)
    (hleader : (b.panelAt 0).held = false → (c.panelAt 0).held = false) : BoardFits c := by
  obtain ⟨hlive, hsnap, hzero⟩ := h
  refine ⟨?_, by rw [hstate, hsnapshot, hsnap], hleader hzero⟩
  rw [hstate, hlines]
  exact fun hl => ⟨hpanels (hlive hl).1, (hlive hl).2⟩

theorem BoardFits.of_panels {b c : Board} (h : BoardFits b) (hstate : c.state = b.state) (hsnapshot : c.snapshot = b.snapshot)
    (hlines : c.lineHeld = b.lineHeld) (hpanels : c.panels = b.panels) : BoardFits c := by
  refine h.of_held hstate hsnapshot hlines (by rw [hpanels]; exact id) ?_
  unfold Board.panelAt
  rw [hpanels]
  exact id

/-- A panel record is written with the held mark it has, or with none. -/
theorem BoardFits.setPanelAt {b c : Board} (h : BoardFits b) (a : Nat) (x : PanelRecord)
    (hx : x.held = true → (b.panelAt a).held = true) (hstate : c.state = b.state) (hsnapshot : c.snapshot = b.snapshot)
    (hlines : c.lineHeld = b.lineHeld) (hpanels : c.panels = b.panels.set a x) : BoardFits c := by
  refine h.of_held hstate hsnapshot hlines (fun hnone => ?_) fun hzero => ?_
  · rw [hpanels]
    refine forall_mem_set hnone a ?_
    by_contra hheld
    have hmark := hx (by simpa using hheld)
    unfold Board.panelAt at hmark
    rw [List.getD_eq_getElem?_getD] at hmark
    cases hget : b.panels[a]? with
    | none => simp [hget] at hmark
    | some r => simp [hget, hnone r (List.mem_of_getElem? hget)] at hmark
  · unfold Board.panelAt at hzero ⊢
    rw [hpanels, List.getD_eq_getElem?_getD, List.getElem?_set]
    split_ifs with ha hbound
    · by_contra hheld
      have hmark := hx (by simpa using hheld)
      rw [Board.panelAt, ha, hzero] at hmark
      simp at hmark
    · rfl
    · rwa [List.getD_eq_getElem?_getD] at hzero

theorem BoardFits.map {b c : Board} (h : BoardFits b) (f : PanelRecord → PanelRecord) (hf : ∀ r, (f r).held = r.held)
    (hstate : c.state = b.state) (hsnapshot : c.snapshot = b.snapshot) (hlines : c.lineHeld = b.lineHeld)
    (hpanels : c.panels = b.panels.map f) : BoardFits c := by
  refine h.of_held hstate hsnapshot hlines (fun hnone r hr => ?_) fun hzero => ?_
  · rw [hpanels] at hr
    obtain ⟨r', hr', rfl⟩ := List.mem_map.mp hr
    rw [hf, hnone r' hr']
  · unfold Board.panelAt at hzero ⊢
    rw [hpanels, List.getD_eq_getElem?_getD, List.getElem?_map]
    rw [List.getD_eq_getElem?_getD] at hzero
    cases hget : b.panels[0]? with
    | none => rfl
    | some r => simpa [hget, hf] using hzero

/-- The record at address 0 keeps its held mark when every other is set or cleared. -/
theorem Board.markAll_panelAt_zero (b : Board) (x : Bool) : ((b.markAll x).panelAt 0).held = (b.panelAt 0).held := by
  unfold Board.markAll Board.panelAt
  simp only [List.getD_eq_getElem?_getD, List.getElem?_mapIdx]
  cases b.panels[0]? <;> rfl

theorem BoardFits.goLive {b : Board} (h : BoardFits b) : BoardFits b.goLive := by
  obtain ⟨-, -, hzero⟩ := h
  refine ⟨fun _ => ⟨fun r hr => ?_, fun x hx => ?_⟩, by simp [Board.goLive], ?_⟩
  · obtain ⟨i, hi, rfl⟩ := List.mem_mapIdx.mp hr
    cases i with
    | zero =>
      rw [Board.panelAt, List.getD_eq_getElem?_getD, List.getElem?_eq_getElem hi] at hzero
      exact hzero
    | succ => rfl
  · exact List.eq_of_mem_replicate hx
  · exact (b.markAll_panelAt_zero false).trans hzero

/-- A held board stays out of LIVE, whatever marks it then has. -/
theorem BoardFits.of_not_live {b c : Board} (h : BoardFits b) (hb : b.state ≠ .live) (hc : c.state ≠ .live)
    (hsnapshot : c.snapshot = b.snapshot) (hleader : (c.panelAt 0).held = false) : BoardFits c := by
  obtain ⟨-, hsnap, -⟩ := h
  refine ⟨fun hl => absurd hl hc, ⟨fun hl => absurd hl hc, fun hn => ?_⟩, hleader⟩
  exact absurd (hsnap.mpr (hsnapshot ▸ hn)) hb

theorem State.releaseAtCursor_boardFits {s : State} (h : BoardFits s.board) (hstate : s.board.state = .revealing) :
    BoardFits s.releaseAtCursor.board ∧ s.releaseAtCursor.board.state = .revealing := by
  have hline : ∀ b : Board, BoardFits b → b.state = .revealing →
      BoardFits (if b.cursor ≤ 8 then { b with lineHeld := b.lineHeld.set (b.cursor - 1) false } else b) ∧
        (if b.cursor ≤ 8 then { b with lineHeld := b.lineHeld.set (b.cursor - 1) false } else b).state = .revealing := by
    intro b hb hs
    split
    · exact ⟨hb.of_not_live (by simp [hs]) (by simp [hs]) rfl hb.2.2, hs⟩
    · exact ⟨hb, hs⟩
  unfold State.releaseAtCursor
  split
  · exact hline _ (h.setPanelAt _ _ (by simp) rfl rfl rfl rfl) hstate
  · exact hline _ h hstate

theorem State.reveal_boardFits {s : State} (h : BoardFits s.board) (hstate : s.board.state = .revealing) :
    BoardFits s.reveal.board := by
  obtain ⟨hfits, -⟩ := State.releaseAtCursor_boardFits h hstate
  unfold State.reveal
  dsimp only
  split
  · simpa using hfits.goLive
  · simp only [State.setBoard_board, State.raise_frame]
    exact hfits.of_panels rfl rfl rfl rfl

theorem PanelRecord.polled_held (r : PanelRecord) (p : Presence) : (r.polled p).held = r.held := rfl

theorem State.completePoll_boardFits {s : State} (p : Presence) (h : BoardFits s.board) : BoardFits (s.completePoll p).board := by
  have hpoll : ∀ a c, BoardFits (s.board.afterPoll a p c) := fun a c =>
    h.setPanelAt a _ (by rw [PanelRecord.polled_held]; exact id) rfl rfl rfl rfl
  unfold State.completePoll
  split
  · dsimp only
    split
    next a _ c _ _ _ =>
      simp only [State.setBoard_board, State.raise_frame]
      exact (hpoll a c).of_panels rfl rfl rfl rfl
    · exact hpoll _ _
  · exact h.of_panels rfl rfl rfl rfl
  all_goals exact h

theorem State.closeWon_boardFits {s : State} (n : Nat) (h : BoardFits s.board) : BoardFits (s.closeWon n).board := by
  unfold State.closeWon State.beginBlink
  split
  · simpa using h
  · simpa using h.setPanelAt (c := s.board.setPanelAt n _) n { s.board.panelAt n with blinkLeft := blinkTime, blinkOpen := true }
      id rfl rfl rfl rfl

theorem State.judgeBy_boardFits {s : State} (x : Holder) (right : Bool) (h : BoardFits s.board) :
    BoardFits (s.judgeBy x right).board := by
  cases right
  · simpa [State.judgeBy] using h
  · exact State.closeWon_boardFits _ (by simpa using h)

theorem State.abandonForReset_board (s : State) : s.abandonForReset.board = s.board := by
  unfold State.abandonForReset; split <;> simp

theorem BoardFits.showReset {b : Board} (h : BoardFits b) : BoardFits b.showReset :=
  h.goLive.map (fun r => { r with shown := none, blinkLeft := 0, blinkOpen := false }) (fun _ => rfl) rfl rfl rfl rfl

theorem Board.reset_fits : BoardFits Board.reset := by
  refine ⟨fun _ => ⟨fun r hr => ?_, fun x hx => List.eq_of_mem_replicate hx⟩, by simp [Board.reset], rfl⟩
  rw [List.eq_of_mem_replicate hr]

/-- The work of a command keeps the board's invariant. -/
theorem carry_boardFits {i : Instr} {carry : State → Carried} (h : carryOf i = some carry) (hreach : Part.board ∈ reach i)
    {s : State} (hs : BoardFits s.board) : BoardFits (carry s).state.board := by
  cases i with
  | judge v =>
    cases h; unfold carryJudge
    repeat' split
    any_goals exact hs
    exact State.judgeBy_boardFits _ _ hs
  | holdBoards =>
    cases h; unfold carryHoldBoards
    split
    · obtain ⟨-, -, hzero⟩ := hs
      simp only [State.done_state, State.raise_frame, State.setBoard_board]
      exact ⟨by simp, by simp, (s.board.markAll_panelAt_zero true).trans hzero⟩
    · exact hs
  | revealBoards interval =>
    cases h; unfold carryRevealBoards
    split
    next hheld =>
      exact hs.of_not_live (by simp [hheld]) (by simp) rfl hs.2.2
    · exact hs
  | releaseBoards =>
    cases h; unfold carryReleaseBoards
    split
    · exact hs
    · simpa using hs.goLive
  | checkPanels =>
    cases h; unfold carryCheckPanels
    split
    · exact hs
    · exact hs.of_panels rfl rfl rfl rfl
  | setLeaderboardMode mode =>
    cases h; unfold carrySetLeaderboardMode
    split
    · exact hs.of_panels rfl rfl rfl rfl
    · exact hs
  | _ => first | exact absurd hreach (not_mem_reach rfl) | cases h

theorem exec_boardFits (i : Instr) {s : State} (hs : BoardFits s.board) : ∃ t, exec i s = .next t ∧ BoardFits t.board := by
  by_cases hreach : Part.board ∈ reach i
  case neg =>
    obtain ⟨t, ht, hframe⟩ := exec_frame i s
    exact ⟨t, ht, by rwa [hframe.board hreach]⟩
  cases hcarry : carryOf i with
  | some carry =>
    rw [exec_of_carry hcarry]
    refine desk_keeps (P := fun u => BoardFits u.board) hs (fun h => by simpa using h) fun u _ hu => ?_
    simpa using carry_boardFits hcarry hreach hu
  | none =>
    cases i with
    | hardReset => exact ⟨_, rfl, Board.reset_fits⟩
    | showResetExecute =>
      refine ⟨_, rfl, ?_⟩
      split
      · show BoardFits s.abandonForReset.board.showReset
        rw [State.abandonForReset_board]
        exact hs.showReset
      · exact hs
    | revealStep =>
      refine ⟨_, rfl, ?_⟩
      split
      next h =>
        simp only [Bool.and_eq_true, decide_eq_true_eq] at h
        exact State.reveal_boardFits hs h.1
      · exact hs
    | winnerBlinkEnd n =>
      refine ⟨_, rfl, ?_⟩
      split
      · exact hs.setPanelAt n { s.board.panelAt n with blinkOpen := false } id rfl rfl rfl rfl
      · exact hs
    | refreshSendBegin =>
      refine ⟨_, rfl, ?_⟩
      unfold State.beginRefresh
      repeat' split
      · exact hs.of_panels rfl rfl rfl rfl
      all_goals exact hs
    | refreshSendComplete =>
      refine ⟨_, rfl, ?_⟩
      unfold State.completeRefresh
      split
      next a image void _ =>
        simp only [State.setBoard_board]
        split
        · exact hs.of_panels rfl rfl rfl rfl
        · exact hs.setPanelAt a { s.board.panelAt a with shown := some image } id rfl rfl rfl rfl
      all_goals exact hs
    | pollBegin =>
      refine ⟨_, rfl, ?_⟩
      unfold State.beginPoll
      repeat' split
      · exact hs.of_panels rfl rfl rfl rfl
      all_goals exact hs
    | panelPollReply head status check =>
      simp only [exec, execPanelPollReply]
      split
      · refine ⟨_, rfl, ?_⟩
        split
        · exact State.completePoll_boardFits _ hs
        · exact hs
      all_goals exact ⟨_, rfl, hs⟩
    | panelPollTimeout =>
      simp only [exec, execPanelPollTimeout]
      split
      · refine ⟨_, rfl, ?_⟩
        split
        · exact State.completePoll_boardFits _ hs
        · exact hs
      all_goals exact ⟨_, rfl, hs⟩
    | tick levels =>
      exact ⟨_, rfl, hs.map (fun r => { r with blinkLeft := r.blinkLeft - 1 }) (fun _ => rfl) rfl rfl rfl rfl⟩
    | _ => first | exact absurd hreach (not_mem_reach rfl) | cases hcarry

/-- Settles O9: every row keeps the roster's invariant and the boards'. -/
theorem rosterAndBoardsKeepFitting : Obligations.RosterAndBoardsKeepFitting := by
  intro s t hst
  refine ⟨fun hs => ?_, fun hs => ?_⟩
  · exact step_keeps (P := fun u => RosterFits u.intake) (fun _ _ h => h) (fun i u hu => exec_rosterFits i hu) hs hst
  · exact step_keeps (P := fun u => BoardFits u.board) (fun _ _ h => h) (fun i u hu => exec_boardFits i hu) hs hst

/-! ### At reset -/

/-- Settles O3: the reset state, unit by unit. -/
theorem invariantsHoldAtReset : Obligations.InvariantsHoldAtReset := by
  have hcontext : State.reset.context = Context.blank := rfl
  refine ⟨?_, Standings.reset_inRange, ?_, ?_, ?_, ?_, Board.reset_fits, Link.reset_fits.1, Link.reset_fits.2⟩
  · exact ⟨Nat.zero_le _, Nat.zero_le _, Nat.zero_le _, Nat.zero_le _, Nat.zero_le _⟩
  · exact engineFits_of_not_live rfl rfl rfl
  · exact ⟨RoundList.reset_slots_length, by simp [State.reset, RoundList.reset, Engine.reset], fun h => absurd rfl h, nofun⟩
  · exact queueFits_of_clear rfl rfl rfl ⟨nofun, nofun⟩
  · exact rosterFits_of_empty List.length_replicate fun _ hr => List.eq_of_mem_replicate hr

end Sys2Proof.Machine
end

section
/-! What a waiting desk command answers: one rule that turns the command's work into its reply, and the replies of the link's
and the list's commands (R182, R185, R187 to R190, R194; R6 to R14). -/

namespace Sys2Proof.Machine

/-! ### From the work of a command to its reply -/

/-- A command that waits is answered with what its work gives (R184, R185). -/
theorem replies_of_carry {i : Instr} {carry : State → Carried} (hc : carryOf i = some carry) {s t : State}
    (hw : s.waitingCommand = some i) {code : ReplyCode} {data : List Byte} (h : carry s = ⟨t, code, data⟩) :
    Replies i s t code data := by
  unfold Replies
  rw [exec_of_carry hc, desk_of_waiting hw, h]
  rfl

theorem replies_refuse {i : Instr} {carry : State → Carried} (hc : carryOf i = some carry) {s : State}
    (hw : s.waitingCommand = some i) {code : ReplyCode} (h : carry s = s.refuse code) : Replies i s s code [] :=
  replies_of_carry hc hw h

theorem replies_done {i : Instr} {carry : State → Carried} (hc : carryOf i = some carry) {s t : State}
    (hw : s.waitingCommand = some i) {data : List Byte} (h : carry s = t.done data) : Replies i s t .done data :=
  replies_of_carry hc hw h

/-! ### Forms (R196) -/

theorem form1?_eq (x : Option Nat) : form1? x = [(x.map (BitVec.ofNat 8)).getD 0xFF] := by
  cases x <;> simp [form1?, form1_eq]

theorem formCode?_eq (x : Option Byte) : formCode? x = [x.getD 0xFF] := by
  cases x <;> rfl

theorem slotOf_of_val {slot : Byte} {k : Fin 128} (h : k.val = slot.toNat) : slotOf slot = some k := by
  unfold slotOf
  rw [dif_pos (h ▸ k.isLt)]
  exact congrArg some (Fin.ext h.symm)

theorem slotOf_of_high {slot : Byte} (h : 127 < slot.toNat) : slotOf slot = none :=
  dif_neg (by omega)

/-- The number of a slot, as a byte. -/
theorem ofNat_of_val {slot : Byte} {k : Fin 128} (h : k.val = slot.toNat) : BitVec.ofNat 8 k.val = slot := by
  simp [h]

/-! ### The commands of the control link -/

theorem statusView_eq (s : State) : s.statusView =
    [s.engine.state.code, (s.engine.remembered.map EngineState.code).getD 0xFF,
        if s.engine.state = .idle then 0xFF else BitVec.ofNat 8 s.list.pointer.val,
        s.board.state.code, if s.standings.frozen then 1 else 0]
      ++ bytesOf 2 s.link.flags.toNat
      ++ [BitVec.ofNat 8 s.link.queue.length, if s.link.lost then 1 else 0, if s.link.hold.isSome then 1 else 0] := by
  by_cases hidle : s.engine.state = .idle <;>
    simp [State.statusView, form1?_eq, formCode?_eq, form1_eq, formBool, formClasses, hidle]

/-- Settles O24: each command's work, case by case. -/
theorem linkCommandsAnswer : Obligations.LinkCommandsAnswer := by
  refine ⟨fun s hw => ?_, fun rate s hw => ⟨fun hwindow => ?_, fun hwindow hhigh => ?_, fun hwindow hok => ?_⟩,
    fun x s hw => ⟨fun hok => ?_, fun hhigh => ?_⟩, fun x s hw => ⟨fun hmode => ?_, fun hmode hx => ?_, fun hmode hx => ?_⟩,
    fun n s hw => ⟨fun hmode => ?_, fun hmode hn => ?_, fun hmode hn hle => ?_⟩, fun s hw => ?_⟩
  · exact replies_done rfl hw (by rw [← statusView_eq]; rfl)
  · exact replies_refuse rfl hw (by simp [carrySetRate, hwindow])
  · exact replies_refuse rfl hw (by simp [carrySetRate, hwindow, hhigh])
  · exact replies_done rfl hw (by simp [carrySetRate, hwindow, hok])
  · refine replies_done rfl hw ?_
    have hwidth : (x.setWidth 12).toNat = x.toNat := by
      rw [BitVec.toNat_setWidth]; exact Nat.mod_eq_of_lt hok
    simp [carrySetNoticeMask, hok, formClasses, hwidth]
  · exact replies_refuse rfl hw (by simp [carrySetNoticeMask, hhigh])
  · exact replies_refuse rfl hw (by simp [carryHoldReports, hmode])
  · refine replies_done rfl hw ?_
    rw [carryHoldReports, if_neg (by simp [hmode]), if_neg hx]
  · refine replies_done rfl hw ?_
    rw [carryHoldReports, if_neg (by simp [hmode]), if_pos hx]
  · exact replies_refuse rfl hw (by simp [carryFetchReports, hmode])
  · refine replies_refuse rfl hw ?_
    rw [carryFetchReports, if_neg (by simp [hmode]), if_pos (by simpa using hn)]
  · refine replies_done rfl hw ?_
    rw [carryFetchReports, if_neg (by simp [hmode]), if_neg (by simpa using ⟨hn, hle⟩), form1_eq]
  · exact replies_done rfl hw rfl

/-! ### The commands of the list -/

/-- What HAND OVER and SET POINTER say of the two ends of an examination (R12 to R14). -/
theorem State.listPosition_cueAt (s : State) (k : Fin 128) :
    (s.cueAt k).listPosition = [1, BitVec.ofNat 8 k.val, 0xFF, 0xFF] := by
  simp [State.listPosition, State.cueAt, form1_eq, formCode?_eq, EngineState.code]

theorem State.listPosition_parkAt (s : State) (k : Fin 128) (reason : ParkReason) (basis : ParkBasis) :
    (s.parkAt k reason basis).listPosition = [0, BitVec.ofNat 8 k.val, reason.code, basis.code] := by
  simp [State.listPosition, form1_eq, formCode?_eq, EngineState.code]

theorem Owner.eq_edit_iff {o : Owner} : o = .edit ↔ o ≠ .engine := by cases o <;> simp

/-- Settles O29: SET POINTER and GO, by the owner of the slot they examine. -/
theorem setPointerAndGo : Obligations.SetPointerAndGo := by
  refine ⟨fun s k reason basis => ⟨rfl, rfl⟩, fun slot s hw => ⟨fun hhigh => ?_, fun k hk => ⟨fun hlive => ?_, fun hlive howner => ?_,
    fun hlive howner => ?_⟩⟩, fun s hw => ⟨fun hidle => ?_, fun reason hidle hpark => ⟨fun howner => ?_, fun howner => ?_⟩,
    fun reason hidle hpark => ⟨fun hlink => ?_, fun j hlink howner => ?_, fun j hlink howner => ?_⟩⟩⟩
  · exact replies_refuse rfl hw (by simp [carrySetPointer, slotOf_of_high hhigh])
  · exact replies_refuse rfl hw (by simp [carrySetPointer, slotOf_of_val hk, hlive])
  · refine replies_done rfl hw ?_
    simp [carrySetPointer, slotOf_of_val hk, hlive, State.examine, howner, State.listPosition_cueAt, hk]
  · refine replies_done rfl hw ?_
    simp [carrySetPointer, slotOf_of_val hk, hlive, State.examine, howner, State.listPosition_parkAt, hk, ParkReason.code,
      ParkBasis.code]
  · exact replies_refuse rfl hw (by simp [carryGo, hidle])
  · refine replies_done rfl hw ?_
    simp [carryGo, hidle, State.reexamine, hpark, State.examine, howner, State.listPosition_cueAt]
  · refine replies_done rfl hw ?_
    simp [carryGo, hidle, State.reexamine, hpark, State.examine, howner, State.listPosition_parkAt, ParkReason.code,
      ParkBasis.code]
  · refine replies_done rfl hw ?_
    simp [carryGo, hidle, State.reexamine, hpark, State.followFrom, hlink, State.listPosition_parkAt, ParkReason.code,
      ParkBasis.code]
  · refine replies_done rfl hw ?_
    simp [carryGo, hidle, State.reexamine, hpark, State.followFrom, hlink, howner, State.listPosition_cueAt]
  · refine replies_done rfl hw ?_
    simp [carryGo, hidle, State.reexamine, hpark, State.followFrom, hlink, howner, State.listPosition_parkAt, ParkReason.code,
      ParkBasis.code]

/-! ### Writing, reading and handing over a slot -/

theorem RoundKind.ofCode_isSome (b : Byte) : (RoundKind.ofCode b).isSome = decide (b.toNat ≤ 3) := by
  unfold RoundKind.ofCode
  split_ifs <;> simp <;> bv_omega

theorem linkOf_isSome (b : Byte) : (linkOf b).isSome = decide (b.toNat ≤ 127 ∨ b = 0xFF) := by
  unfold linkOf slotOf
  split_ifs <;> simp_all <;> omega

theorem FalseStartRule.ofCode_isSome (b : Byte) : (FalseStartRule.ofCode b).isSome = decide (b.toNat ≤ 2) := by
  unfold FalseStartRule.ofCode
  split_ifs <;> simp <;> bv_omega

theorem ReboundMode.ofCode_isSome (b : Byte) : (ReboundMode.ofCode b).isSome = decide (b.toNat ≤ 1) := by
  unfold ReboundMode.ofCode
  split_ifs <;> simp <;> bv_omega

theorem boolOfCode_isSome (b : Byte) : (boolOfCode b).isSome = decide (b.toNat ≤ 1) := by
  unfold boolOfCode
  split_ifs <;> simp <;> bv_omega

theorem RoundKey.ofCode_isSome (b : Byte) : (RoundKey.ofCode b).isSome = decide (b.toNat ≤ 6) := by
  unfold RoundKey.ofCode OptKey.ofCode
  split_ifs <;> simp <;> bv_omega

theorem AnswerLock.ofCode_isSome (b : Byte) : (AnswerLock.ofCode b).isSome = decide (b.toNat ≤ 1) := by
  unfold AnswerLock.ofCode
  split_ifs <;> simp <;> bv_omega

/-- The first check fails, or the rest decide (R7, R9). -/
theorem firstFailing_cons (n : Nat) (b : Bool) (rest : List (Nat × Bool)) :
    firstFailing ((n, b) :: rest) = if b then firstFailing rest else some n := by
  cases b <;> simp [firstFailing]

theorem firstFailing_nil : firstFailing [] = none := rfl

end Sys2Proof.Machine
end

section
/-! The wire forms read back: quantities, command payloads and frames, pad frames and descriptors (R183, R185, R196). -/

namespace Sys2Proof.Machine

/-! ### Quantities -/

theorem length_bytesOf (n x : Nat) : (bytesOf n x).length = n := by
  induction n with
  | zero => rfl
  | succ n ih => simp [bytesOf, ih]

theorem foldl_value (l : List Byte) (a : Nat) :
    l.foldl (fun acc b => acc * 256 + b.toNat) a = a * 256 ^ l.length + valueOf l := by
  induction l generalizing a with
  | nil => simp [valueOf]
  | cons b l ih =>
    have hcons : valueOf (b :: l) = (0 * 256 + b.toNat) * 256 ^ l.length + valueOf l := ih _
    rw [List.foldl_cons, ih, hcons, List.length_cons]
    ring

theorem valueOf_cons (b : Byte) (l : List Byte) : valueOf (b :: l) = b.toNat * 256 ^ l.length + valueOf l := by
  rw [valueOf, List.foldl_cons, foldl_value]
  simp

/-- The bytes of a value hold it modulo their range (R196). -/
theorem valueOf_bytesOf (n x : Nat) : valueOf (bytesOf n x) = x % 256 ^ n := by
  induction n with
  | zero => simp [bytesOf, valueOf, Nat.mod_one]
  | succ n ih =>
    have hmod : x % 256 ^ (n + 1) = x % 256 ^ n + 256 ^ n * (x / 256 ^ n % 256) := by rw [pow_succ, Nat.mod_mul]
    rw [bytesOf, valueOf_cons, ih, length_bytesOf, BitVec.toNat_ofNat, hmod]
    ring

/-- A word of whole bytes reads back from its bytes. -/
theorem ofNat_valueOf_bytesOf (n : Nat) (x : BitVec (8 * n)) : BitVec.ofNat (8 * n) (valueOf (bytesOf n x.toNat)) = x := by
  apply BitVec.eq_of_toNat_eq
  have hlt := x.isLt
  rw [valueOf_bytesOf, BitVec.toNat_ofNat, Nat.pow_mul] at *
  rw [Nat.mod_mod, Nat.mod_eq_of_lt hlt]

theorem word_readsBack (x : BitVec 16) : BitVec.ofNat 16 (valueOf (bytesOf 2 x.toNat)) = x := ofNat_valueOf_bytesOf 2 x

theorem triple_readsBack (x : BitVec 24) : BitVec.ofNat 24 (valueOf (bytesOf 3 x.toNat)) = x := ofNat_valueOf_bytesOf 3 x

theorem octet_readsBack (x : BitVec 64) : BitVec.ofNat 64 (valueOf (bytesOf 8 x.toNat)) = x := ofNat_valueOf_bytesOf 8 x

/-! ### Payloads -/

theorem argsWord_bytesOf (f : BitVec 16 → Instr) (x : BitVec 16) : argsWord f (bytesOf 2 x.toNat) = some (f x) :=
  congrArg (fun y => some (f y)) (word_readsBack x)

theorem argsByteWord_bytesOf (f : Byte → BitVec 16 → Instr) (b : Byte) (x : BitVec 16) :
    argsByteWord f (b :: bytesOf 2 x.toNat) = some (f b x) :=
  congrArg (fun y => some (f b y)) (word_readsBack x)

theorem argsWordBytes_bytesOf (f : BitVec 16 → Byte → Byte → Instr) (x : BitVec 16) (a b : Byte) :
    argsWordBytes f (bytesOf 2 x.toNat ++ [a, b]) = some (f x a b) :=
  congrArg (fun y => some (f y a b)) (word_readsBack x)

theorem argsMap_bytesOf (m : BitVec 64) : argsMap (bytesOf 8 m.toNat) = some (.setGuestMap m) := by
  rw [argsMap, if_pos (length_bytesOf 8 _), octet_readsBack]

/-- A list of ten bytes, taken apart. -/
theorem eq_ten_of_length {l : List Byte} (h : l.length = 10) :
    ∃ a b c d e f g x y z, l = [a, b, c, d, e, f, g, x, y, z] := by
  match l, h with
  | [a, b, c, d, e, f, g, x, y, z], _ => exact ⟨a, b, c, d, e, f, g, x, y, z, rfl⟩

theorem argsTeam_name {name : List Byte} (h : name.length = 10) (n len playing house : Byte) :
    argsTeam (n :: len :: (name ++ [playing, house])) = some (.setTeam n len name playing house) := by
  obtain ⟨a, b, c, d, e, f, g, x, y, z, rfl⟩ := eq_ten_of_length h
  rfl

theorem argsHouse_name {name : List Byte} (hname : name.length = 10) (h len shown games : Byte) (total : BitVec 24) :
    argsHouse (h :: len :: (name ++ shown :: (bytesOf 3 total.toNat ++ [games]))) =
      some (.setHouse h len name shown total games) := by
  obtain ⟨a, b, c, d, e, f, g, x, y, z, rfl⟩ := eq_ten_of_length hname
  exact congrArg (fun v => some (Instr.setHouse h len [a, b, c, d, e, f, g, x, y, z] shown v games)) (triple_readsBack total)

theorem DescriptorPayload.ofBytes_bytes (d : DescriptorPayload) : DescriptorPayload.ofBytes d.bytes = some d := by
  cases d with
  | mk kind link basePoints penalty bonusMax bonusWindow timeLimit readingLimit answerWindow settleWindow wrongLimit falseStart
      rebound timeoutWrong streakScoring options key answerLock teamSet =>
    show some (DescriptorPayload.mk kind link (BitVec.ofNat 16 (valueOf (bytesOf 2 basePoints.toNat)))
      (BitVec.ofNat 16 (valueOf (bytesOf 2 penalty.toNat))) bonusMax (BitVec.ofNat 16 (valueOf (bytesOf 2 bonusWindow.toNat)))
      (BitVec.ofNat 16 (valueOf (bytesOf 2 timeLimit.toNat))) readingLimit answerWindow settleWindow wrongLimit falseStart
      rebound timeoutWrong streakScoring options key answerLock (BitVec.ofNat 24 (valueOf (bytesOf 3 teamSet.toNat)))) = _
    simp only [word_readsBack, triple_readsBack]

theorem argsDescriptor_bytes (slot : Byte) (d : DescriptorPayload) :
    argsDescriptor (slot :: d.bytes) = some (.writeRound slot d) := by
  rw [argsDescriptor, DescriptorPayload.ofBytes_bytes]
  rfl

/-! ### Command frames -/

/-- The payload of every command reads back as that command (R196). -/
theorem commandOf_payload {i : Instr} {kind : Byte} (hw : i.wellFormed = true) (hk : i.kindByte = some kind) :
    commandOf kind i.payload = some i := by
  cases i with
  | setNoticeMask | holdReports | withdraw | readHandset => cases hk; exact argsWord_bytesOf _ _
  | adjustScore | setScore => cases hk; exact argsByteWord_bytesOf _ _ _
  | enroll | move => cases hk; exact argsWordBytes_bytesOf _ _ _ _
  | setGuestMap m => cases hk; exact argsMap_bytesOf m
  | writeRound slot d => cases hk; exact argsDescriptor_bytes slot d
  | setTeam => cases hk; exact argsTeam_name (by simpa [Instr.wellFormed] using hw) _ _ _ _
  | setHouse => cases hk; exact argsHouse_name (by simpa [Instr.wellFormed] using hw) _ _ _ _ _
  | setPlacePoints points => cases hk; exact if_pos (by simpa [Instr.wellFormed, Instr.payload] using hw)
  | _ => cases hk <;> rfl

theorem payload_length_le {i : Instr} (hw : i.wellFormed = true) : i.payload.length ≤ 62 := by
  cases i <;> simp_all [Instr.payload, Instr.wellFormed, length_bytesOf, DescriptorPayload.bytes]

/-- The check byte that is worked out makes the sum 0 (R196). -/
theorem frameSum_checkFor (kind : Byte) (payload : List Byte) : frameSum kind payload (checkFor kind payload) = 0 := by
  unfold checkFor frameSum
  bv_omega

theorem LinkFrame.toNat_length {f : LinkFrame} (h : f.payload.length ≤ 62) : f.length.toNat = f.payload.length + 1 := by
  rw [LinkFrame.length, BitVec.toNat_ofNat]
  exact Nat.mod_eq_of_lt (by omega)

/-- The bytes after the start byte complete the frame (R183). -/
theorem LinkFrame.ofReceived_bytes {f : LinkFrame} (h : f.payload.length ≤ 62) :
    LinkFrame.ofReceived (f.length :: f.kind :: (f.payload ++ [f.check])) = some f := by
  rw [LinkFrame.ofReceived, if_pos (by rw [LinkFrame.toNat_length h]; simp)]
  simp

/-- Settles O11: by commands, each payload reads back, and the check byte is the one worked out for it. -/
theorem commandFramesReadBack : Obligations.CommandFramesReadBack := by
  intro i f hw hf
  obtain ⟨kind, hkind, rfl⟩ := Option.map_eq_some_iff.mp hf
  have hlength := payload_length_le hw
  have hgood : LinkFrame.checkGood ⟨kind, i.payload, checkFor kind i.payload⟩ = true :=
    decide_eq_true (frameSum_checkFor kind i.payload)
  refine ⟨by simpa [LinkFrame.wellFormed] using hlength, hgood, ?_, LinkFrame.ofReceived_bytes hlength⟩
  rw [LinkFrame.command, if_pos hgood]
  exact commandOf_payload hw hkind

/-! ### Frames that pass the checks, or fail one -/

theorem args0_isSome (i : Instr) (p : List Byte) : (args0 i p).isSome = true ↔ p.length = 0 := by
  cases p <;> simp [args0]

theorem args1_isSome (f : Byte → Instr) (p : List Byte) : (args1 f p).isSome = true ↔ p.length = 1 := by
  rcases p with _ | ⟨a, _ | ⟨b, p⟩⟩ <;> simp [args1]

theorem args2_isSome (f : Byte → Byte → Instr) (p : List Byte) : (args2 f p).isSome = true ↔ p.length = 2 := by
  rcases p with _ | ⟨a, _ | ⟨b, _ | ⟨c, p⟩⟩⟩ <;> simp [args2]

theorem argsWord_isSome (f : BitVec 16 → Instr) (p : List Byte) : (argsWord f p).isSome = true ↔ p.length = 2 := by
  rcases p with _ | ⟨a, _ | ⟨b, _ | ⟨c, p⟩⟩⟩ <;> simp [argsWord]

theorem args3_isSome (f : Byte → Byte → Byte → Instr) (p : List Byte) : (args3 f p).isSome = true ↔ p.length = 3 := by
  rcases p with _ | ⟨a, _ | ⟨b, _ | ⟨c, _ | ⟨d, p⟩⟩⟩⟩ <;> simp [args3]

theorem argsByteWord_isSome (f : Byte → BitVec 16 → Instr) (p : List Byte) :
    (argsByteWord f p).isSome = true ↔ p.length = 3 := by
  rcases p with _ | ⟨a, _ | ⟨b, _ | ⟨c, _ | ⟨d, p⟩⟩⟩⟩ <;> simp [argsByteWord]

theorem args4_isSome (f : Byte → Byte → Byte → Byte → Instr) (p : List Byte) :
    (args4 f p).isSome = true ↔ p.length = 4 := by
  rcases p with _ | ⟨a, _ | ⟨b, _ | ⟨c, _ | ⟨d, _ | ⟨e, p⟩⟩⟩⟩⟩ <;> simp [args4]

theorem argsWordBytes_isSome (f : BitVec 16 → Byte → Byte → Instr) (p : List Byte) :
    (argsWordBytes f p).isSome = true ↔ p.length = 4 := by
  rcases p with _ | ⟨a, _ | ⟨b, _ | ⟨c, _ | ⟨d, _ | ⟨e, p⟩⟩⟩⟩⟩ <;> simp [argsWordBytes]

theorem argsPoints_isSome (p : List Byte) : (argsPoints p).isSome = true ↔ p.length = 8 := by
  unfold argsPoints; split <;> simp_all

theorem argsMap_isSome (p : List Byte) : (argsMap p).isSome = true ↔ p.length = 8 := by
  unfold argsMap; split <;> simp_all

theorem argsTeam_isSome (p : List Byte) : (argsTeam p).isSome = true ↔ p.length = 14 := by
  unfold argsTeam
  split
  · simp
  next hne =>
    simp only [Option.isSome_none, Bool.false_eq_true, false_iff]
    intro h
    match p, h with
    | [a, b, c, d, e, f, g, x, y, z, u, v, w, o], _ => exact hne _ _ _ _ _ _ _ _ _ _ _ _ _ _ rfl

theorem argsHouse_isSome (p : List Byte) : (argsHouse p).isSome = true ↔ p.length = 17 := by
  unfold argsHouse
  split
  · simp
  next hne =>
    simp only [Option.isSome_none, Bool.false_eq_true, false_iff]
    intro h
    match p, h with
    | [a, b, c, d, e, f, g, x, y, z, u, v, w, o, k, l, m], _ => exact hne _ _ _ _ _ _ _ _ _ _ _ _ _ _ _ _ _ rfl

theorem DescriptorPayload.ofBytes_isSome (p : List Byte) : (DescriptorPayload.ofBytes p).isSome = true ↔ p.length = 25 := by
  unfold DescriptorPayload.ofBytes
  split
  · simp
  next hne =>
    simp only [Option.isSome_none, Bool.false_eq_true, false_iff]
    intro h
    match p, h with
    | [a, b, c, d, e, f, g, x, y, z, u, v, w, o, k, l, m, a', b', c', d', e', f', g', x'], _ =>
      exact hne _ _ _ _ _ _ _ _ _ _ _ _ _ _ _ _ _ _ _ _ _ _ _ _ _ rfl

theorem argsDescriptor_isSome (p : List Byte) : (argsDescriptor p).isSome = true ↔ p.length = 26 := by
  cases p with
  | nil => simp [argsDescriptor]
  | cons slot rest => simp [argsDescriptor, DescriptorPayload.ofBytes_isSome]

/-- A kind and a payload spell a command exactly where the kind code table gives the kind that payload's length (R185,
R196). -/
theorem commandOf_isSome_iff (kind : Byte) (p : List Byte) :
    (commandOf kind p).isSome = true ↔ payloadLength kind = some p.length := by
  unfold commandOf
  split
  case h_54 =>
    simp only [Option.isSome_none, Bool.false_eq_true, false_iff]
    simp [payloadLength, *]
  all_goals
    next h =>
      simp only [payloadLength, h, args0_isSome, args1_isSome, args2_isSome, args3_isSome, args4_isSome, argsWord_isSome,
        argsByteWord_isSome, argsWordBytes_isSome, argsPoints_isSome, argsMap_isSome, argsTeam_isSome, argsHouse_isSome,
        argsDescriptor_isSome, Option.some.injEq]
      exact eq_comm

theorem LinkFrame.checkGood_iff (f : LinkFrame) :
    f.checkGood = true ↔
      (f.payload.length + 1 + f.kind.toNat + (f.payload.map BitVec.toNat).sum + f.check.toNat) % 256 = 0 := by
  rw [LinkFrame.checkGood, decide_eq_true_eq, frameSum, ← BitVec.toNat_inj, BitVec.toNat_ofNat]
  rfl

theorem frameFailure_of_bad {f : LinkFrame} (h : f.checkGood = false) : frameFailure f = some .badCheck := by
  simp [frameFailure, h]

theorem frameFailure_of_good {f : LinkFrame} (h : f.checkGood = true) :
    frameFailure f = none ↔ payloadLength f.kind = some f.payload.length := by
  simp only [frameFailure, h, Bool.not_true, Bool.false_eq_true, if_false]
  cases payloadLength f.kind with
  | none => simp
  | some n => simp [eq_comm]

theorem frameFailure_eq_none_iff (f : LinkFrame) : frameFailure f = none ↔ f.command.isSome = true := by
  cases h : f.checkGood with
  | false => simp [frameFailure_of_bad h, LinkFrame.command, h]
  | true => rw [frameFailure_of_good h, LinkFrame.command, if_pos h, commandOf_isSome_iff]

/-- Settles O13: the check byte, then the kind's payload length in the kind code table. -/
theorem framesAreCommandsOrFail : Obligations.FramesAreCommandsOrFail := by
  intro f
  refine ⟨frameFailure_eq_none_iff f, LinkFrame.checkGood_iff f, frameFailure_of_bad, fun hgood hkind => ?_, fun n hgood hkind hne => ?_,
    fun code s hfront hcode => ?_⟩
  · simp [frameFailure, hgood, hkind]
  · simp [frameFailure, hgood, hkind, hne]
  · have hbring : s.bringFrame f = s := if_pos hfront
    show Host.Outcome.next _ = _
    rw [hcode, hbring]
    simp only [hfront, if_true]
    rfl

/-! ### Pad frames and descriptors -/

theorem PadFrame.ofTail_bytes (f : PadFrame) : PadFrame.ofTail f.bytes.tail = some f :=
  congrArg (fun h => some (PadFrame.mk f.receiver h f.key f.sequence f.age f.check)) (word_readsBack f.handset)

/-- The link of a descriptor, as its byte (R196). -/
def linkByte : Option (Fin 128) → Byte
  | some k => BitVec.ofNat 8 k.val
  | none => 0xFF

theorem formLink_eq (x : Option (Fin 128)) : formLink x = [linkByte x] := by
  cases x <;> simp [formLink, linkByte, form1_eq]

theorem linkOf_linkByte (x : Option (Fin 128)) : linkOf (linkByte x) = some x := by
  cases x with
  | none => rfl
  | some k =>
    have hk := k.isLt
    have hval : k.val = (BitVec.ofNat 8 k.val).toNat := by
      rw [BitVec.toNat_ofNat, Nat.mod_eq_of_lt (by omega)]
    have hne : BitVec.ofNat 8 k.val ≠ 0xFF := by
      intro h
      rw [h] at hval
      simp at hval
      omega
    rw [linkByte, linkOf, if_neg hne, slotOf_of_val hval]
    rfl

theorem RoundKind.ofCode_code (x : RoundKind) : RoundKind.ofCode x.code = some x := by cases x <;> rfl
theorem FalseStartRule.ofCode_code (x : FalseStartRule) : FalseStartRule.ofCode x.code = some x := by cases x <;> rfl
theorem ReboundMode.ofCode_code (x : ReboundMode) : ReboundMode.ofCode x.code = some x := by cases x <;> rfl
theorem AnswerLock.ofCode_code (x : AnswerLock) : AnswerLock.ofCode x.code = some x := by cases x <;> rfl
theorem boolOfCode_mark (b : Bool) : boolOfCode (if b then 1#8 else 0#8) = some b := by cases b <;> rfl
theorem RoundKey.ofCode_code (x : RoundKey) : RoundKey.ofCode x.code = some x := by
  cases x with
  | held => rfl
  | given k => cases k <;> rfl

/-- The payload in which a descriptor is written and returned (R7, R8, R196). -/
def Descriptor.asPayload (d : Descriptor) : DescriptorPayload where
  kind := d.kind.code
  link := linkByte d.link
  basePoints := d.basePoints
  penalty := d.penalty
  bonusMax := d.bonusMax
  bonusWindow := d.bonusWindow
  timeLimit := d.timeLimit
  readingLimit := d.readingLimit
  answerWindow := d.answerWindow
  settleWindow := d.settleWindow
  wrongLimit := d.wrongLimit
  falseStart := d.falseStart.code
  rebound := d.rebound.code
  timeoutWrong := if d.timeoutWrong then 1 else 0
  streakScoring := if d.streakScoring then 1 else 0
  options := d.options
  key := d.key.code
  answerLock := d.answerLock.code
  teamSet := d.teamSet

theorem Descriptor.asPayload_bytes (d : Descriptor) : d.asPayload.bytes = d.bytes := by
  simp [Descriptor.bytes, DescriptorPayload.bytes, Descriptor.asPayload, formLink_eq, formBool]

theorem Descriptor.codeChecks_asPayload (d : Descriptor) : firstFailing (codeChecks d.asPayload) = none := by
  simp [codeChecks, Descriptor.asPayload, firstFailing_cons, firstFailing_nil, RoundKind.ofCode_code, linkOf_linkByte,
    FalseStartRule.ofCode_code, ReboundMode.ofCode_code, AnswerLock.ofCode_code, RoundKey.ofCode_code, boolOfCode_mark]

theorem Descriptor.stored_asPayload (d : Descriptor) : storedDescriptor d.asPayload = d := by
  simp [storedDescriptor, Descriptor.asPayload, RoundKind.ofCode_code, linkOf_linkByte, FalseStartRule.ofCode_code,
    ReboundMode.ofCode_code, AnswerLock.ofCode_code, RoundKey.ofCode_code, boolOfCode_mark]

/-- A descriptor's bytes carry its payload. -/
theorem Descriptor.ofBytes_bytes (d : Descriptor) : DescriptorPayload.ofBytes d.bytes = some d.asPayload := by
  rw [← d.asPayload_bytes, DescriptorPayload.ofBytes_bytes]

/-- Settles O12: a pad frame's two-byte handset id reads back, and a descriptor is its payload's. -/
theorem padFramesAndDescriptorsReadBack : Obligations.PadFramesAndDescriptorsReadBack :=
  ⟨fun f => ⟨rfl, rfl, PadFrame.ofTail_bytes f⟩,
    fun d => ⟨d.asPayload, d.ofBytes_bytes, d.asPayload_bytes, d.codeChecks_asPayload, d.stored_asPayload⟩⟩

/-! ### Writing, reading, handing over and taking back -/

/-- The first unknown code of a payload (R7). -/
theorem firstFailing_codeChecks (d : DescriptorPayload) : firstFailing (codeChecks d) =
    if 3 < d.kind.toNat then some 1
    else if 127 < d.link.toNat ∧ d.link ≠ 0xFF then some 2
    else if 2 < d.falseStart.toNat then some 12
    else if 1 < d.rebound.toNat then some 13
    else if 1 < d.timeoutWrong.toNat then some 14
    else if 1 < d.streakScoring.toNat then some 15
    else if 6 < d.key.toNat then some 17
    else if 1 < d.answerLock.toNat then some 18
    else none := by
  have hlink : ¬127 < d.link.toNat ∨ d.link = 0xFF ↔ ¬(127 < d.link.toNat ∧ d.link ≠ 0xFF) := by
    rw [not_and_or, not_not]
  simp only [codeChecks, firstFailing_cons, firstFailing_nil, RoundKind.ofCode_isSome, linkOf_isSome,
    FalseStartRule.ofCode_isSome, ReboundMode.ofCode_isSome, boolOfCode_isSome, RoundKey.ofCode_isSome,
    AnswerLock.ofCode_isSome, decide_eq_true_eq, hlink, ← not_lt, ite_not]

/-- Settles O27: WRITE ROUND by its checks in order, and READ ROUND. -/
theorem writeAndReadRound : Obligations.WriteAndReadRound := by
  refine ⟨firstFailing_codeChecks, fun slot d s hw => ⟨fun hhigh => ?_, fun k hk => ⟨fun howner => ?_, fun n howner hfail => ?_,
    fun x howner hx => ?_⟩⟩, fun slot s hw => ⟨fun hhigh => ?_, fun k hk => ?_⟩⟩
  · exact replies_of_carry rfl hw (by rw [carryWriteRound, slotOf_of_high hhigh]; rfl)
  · exact replies_refuse rfl hw (by simp [carryWriteRound, slotOf_of_val hk, howner])
  · refine replies_of_carry rfl hw ?_
    simp [carryWriteRound, slotOf_of_val hk, howner, hfail, State.refuseField, form1_eq]
  · obtain rfl : x.asPayload = d := Option.some.inj ((Descriptor.ofBytes_bytes x).symm.trans hx)
    refine replies_done rfl hw ?_
    simp [carryWriteRound, slotOf_of_val hk, howner, Descriptor.codeChecks_asPayload, Descriptor.stored_asPayload,
      State.setSlot, RoundResult.cleared]
  · exact replies_refuse rfl hw (by simp [carryReadRound, slotOf_of_high hhigh])
  · refine replies_done rfl hw ?_
    simp [carryReadRound, slotOf_of_val hk, Slot.bytes, form1?_eq, form1_eq, form2]

theorem within_eq (lo hi n : Nat) : within lo hi n = true ↔ ¬(n < lo ∨ hi < n) := by
  simp [within, not_or]

/-- The first check of HAND OVER that fails (R2, R3, R5, R9). -/
theorem firstFailing_checks (d : Descriptor) : firstFailing d.checks =
    if d.kind = .none then some 1
    else if (d.kind = .buzz ∨ d.kind = .choice) ∧ 500 < d.basePoints.toNat then some 3
    else if d.kind = .buzz ∧ 500 < d.penalty.toNat then some 4
    else if d.kind = .buzz ∧ 250 < d.bonusMax.toNat then some 5
    else if d.kind = .buzz ∧ 300 < d.bonusWindow.toNat then some 6
    else if d.timeLimit.toNat < 10 ∨ 9000 < d.timeLimit.toNat then some 7
    else if d.readingLimit = 0 ∨ 120 < d.readingLimit.toNat then some 8
    else if d.kind = .buzz ∧ (d.answerWindow = 0 ∨ 60 < d.answerWindow.toNat) then some 9
    else if d.kind = .buzz ∧ 50 < d.settleWindow.toNat then some 10
    else if d.kind = .buzz ∧ (d.wrongLimit = 0 ∨ 24 < d.wrongLimit.toNat) then some 11
    else if (d.kind = .choice ∨ d.kind = .poll) ∧ (d.options.toNat < 2 ∨ 6 < d.options.toNat) then some 16
    else if d.kind = .choice ∧ d.key ∈ [OptKey.a, .b, .c, .d, .e, .f].filterMap fun k =>
        if d.options.toNat < k.place then some (RoundKey.given k) else none then some 17
    else if (d.kind = .buzz ∨ d.kind = .choice) ∧ d.teamSet = 0 then some 19
    else none := by
  have hzero : ∀ b : Byte, b.toNat < 1 ↔ b = 0 := fun b => by
    constructor
    · intro h; bv_omega
    · rintro rfl; decide
  have hkey : d.keyInPlay = true ↔ ¬d.key ∈ [OptKey.a, .b, .c, .d, .e, .f].filterMap fun k =>
      if d.options.toNat < k.place then some (RoundKey.given k) else none := by
    rw [List.mem_filterMap]
    simp only [Option.ite_none_right_eq_some, not_exists, not_and]
    cases hk : d.key with
    | held => simp [Descriptor.keyInPlay, hk]
    | given k => cases k <;> simp [Descriptor.keyInPlay, hk]
  have hset : (decide (d.teamSet ≠ 0)) = true ↔ ¬d.teamSet = 0 := decide_eq_true_iff
  cases hkind : d.kind <;>
    simp only [Descriptor.checks, hkind, firstFailing_cons, firstFailing_nil, within_eq, hkey, hset, ite_not, hzero,
      Nat.not_lt_zero, false_or, reduceCtorEq, false_and, true_and, or_false, or_true, or_self, if_false, if_true,
      Bool.false_eq_true]

end Sys2Proof.Machine
end

section
/-! The commands of the Round List and of the Round Engine: HAND OVER and TAKE BACK, the close, the refusals, and the start,
the opening, the pauses and the abandoning of a round (R9 to R17, R22 to R31, R43 to R47). -/

namespace Sys2Proof.Machine

/-! ### HAND OVER and TAKE BACK -/

theorem Descriptor.key_out_of_play_iff (d : Descriptor) :
    d.key ∈ ([OptKey.a, .b, .c, .d, .e, .f].filterMap fun k =>
      if d.options.toNat < k.place then some (RoundKey.given k) else none) ↔
      ¬(d.key = .held ∨ ∃ k, d.key = .given k ∧ k.place ≤ d.options.toNat) := by
  rw [List.mem_filterMap]
  simp only [Option.ite_none_right_eq_some]
  cases d.key with
  | held => simp
  | given k => cases k <;> simp

theorem ite_some_eq_none_iff {p : Prop} [Decidable p] {n : Nat} {x : Option Nat} :
    (if p then some n else x) = none ↔ ¬p ∧ x = none := by
  by_cases h : p <;> simp [h]

/-- Which descriptors HAND OVER accepts (R2, R9). -/
theorem firstFailing_checks_eq_none_iff (d : Descriptor) : firstFailing d.checks = none ↔
    d.kind ≠ .none ∧ 10 ≤ d.timeLimit.toNat ∧ d.timeLimit.toNat ≤ 9000 ∧ 1 ≤ d.readingLimit.toNat ∧
      d.readingLimit.toNat ≤ 120 ∧
      (d.kind = .buzz ∨ d.kind = .choice → d.basePoints.toNat ≤ 500 ∧ d.teamSet ≠ 0) ∧
      (d.kind = .buzz → d.penalty.toNat ≤ 500 ∧ d.bonusMax.toNat ≤ 250 ∧ d.bonusWindow.toNat ≤ 300 ∧
        1 ≤ d.answerWindow.toNat ∧ d.answerWindow.toNat ≤ 60 ∧ d.settleWindow.toNat ≤ 50 ∧
        1 ≤ d.wrongLimit.toNat ∧ d.wrongLimit.toNat ≤ 24) ∧
      (d.kind = .choice ∨ d.kind = .poll → 2 ≤ d.options.toNat ∧ d.options.toNat ≤ 6) ∧
      (d.kind = .choice → d.key = .held ∨ ∃ k, d.key = .given k ∧ k.place ≤ d.options.toNat) := by
  have hpos : ∀ b : Byte, b = 0 ↔ ¬1 ≤ b.toNat := fun b => by bv_omega
  rw [firstFailing_checks]
  simp only [ite_some_eq_none_iff, d.key_out_of_play_iff, hpos, and_true]
  cases d.kind <;> simp only [reduceCtorEq, ne_eq, not_true_eq_false, not_false_eq_true, true_and, false_and, true_or,
    or_true, or_self, false_implies, true_implies, and_true, not_or, not_and, not_lt, not_not]
  all_goals tauto

/-- Settles O28: HAND OVER by its checks in order, and TAKE BACK by owner and engine state. -/
theorem handOverAndTakeBack : Obligations.HandOverAndTakeBack := by
  refine ⟨firstFailing_checks, firstFailing_checks_eq_none_iff, fun slot s hw => ⟨fun hhigh => ?_, fun k hk => ⟨fun howner => ?_,
    fun n howner hfail => ?_, fun howner hfail => ?_⟩⟩, fun slot s hw => ⟨fun hhigh => ?_, fun k hk => ⟨fun howner => ?_,
    fun howner hnot => ?_, fun howner hcued hat => ?_, fun howner hlive hat => ?_⟩⟩⟩
  · exact replies_of_carry rfl hw (by simp [carryHandOver, slotOf_of_high hhigh, State.refuseField, form1_eq])
  · exact replies_refuse rfl hw (by simp [carryHandOver, slotOf_of_val hk, howner])
  · exact replies_of_carry rfl hw (by simp [carryHandOver, slotOf_of_val hk, howner, hfail, State.refuseField, form1_eq])
  · exact replies_done rfl hw (by simp [carryHandOver, slotOf_of_val hk, howner, hfail, State.setSlot])
  · exact replies_refuse rfl hw (by simp [carryTakeBack, slotOf_of_high hhigh])
  · exact replies_done rfl hw (by simp [carryTakeBack, slotOf_of_val hk, howner])
  · have hcurrent : s.isCurrent k = false := by
      rcases hnot with h | h <;> simp [State.isCurrent, h]
    exact replies_done rfl hw (by simp [carryTakeBack, slotOf_of_val hk, howner, hcurrent, State.setSlot])
  · have hcurrent : s.isCurrent k = true := by simp [State.isCurrent, hcued, hat]
    have hlive : s.live = false := by simp [State.live, hcued, EngineState.live]
    refine replies_done rfl hw ?_
    simp only [carryTakeBack, slotOf_of_val hk, howner, hcurrent, hlive, State.listPosition_parkAt, reduceCtorEq, if_false,
      Bool.not_true, Bool.false_eq_true]
    rfl
  · have hcurrent : s.isCurrent k = true := by
      have hidle : s.engine.state ≠ .idle := fun h => by simp [State.live, h, EngineState.live] at hlive
      simp [State.isCurrent, hidle, hat]
    exact replies_refuse rfl hw (by simp [carryTakeBack, slotOf_of_val hk, howner, hcurrent, hlive])

/-! ### The close -/

theorem State.close_untouched (s : State) (o : RoundOutcome) :
    (s.close o).intake = s.intake ∧ (s.close o).answers = s.answers ∧ (s.close o).standings = s.standings ∧
      (s.close o).board = s.board := by
  simp

/-- Settles O30: a close by the laws of the walk and of what it tells. -/
theorem closeWritesTheOutcomeAndWalks : Obligations.CloseWritesTheOutcomeAndWalks := by
  refine ⟨fun o w s => ⟨rfl, rfl, rfl, fun hkind => ?_, fun hkind => ?_, fun hclock => ?_⟩, fun o s hlen =>
    ⟨s.close_closes o hlen, s.close_tells o hlen, s.close_untouched o⟩⟩
  · simp [State.resultOf, hkind]
  · simp [State.resultOf, hkind]
  · exact Nat.div_le_div_right hclock

/-! ### The refusals of the engine commands -/

theorem OptKey.ofCode_of_out {b : Byte} (h : b = 0 ∨ 6 < b.toNat) : OptKey.ofCode b = none := by
  unfold OptKey.ofCode
  split_ifs <;> simp_all

theorem OptKey.ofCode_place {b : Byte} {k : OptKey} (h : OptKey.ofCode b = some k) : k.place = b.toNat := by
  unfold OptKey.ofCode at h
  split_ifs at h <;> simp_all [OptKey.place]
  all_goals (subst h; rfl)

/-- Settles O31: each command's test of the state comes before its work. -/
theorem engineCommandsAreRefused : Obligations.EngineCommandsAreRefused := by
  intro s
  refine ⟨fun hw hs => ?_, fun hw hs hf => ?_, fun hw hs => ?_, fun hw hs => ?_, fun v hw => ⟨fun hs => ?_, fun hs hv => ?_⟩,
    fun b hw => ⟨fun hs => ?_, fun hs hb => ?_⟩, fun hw hs => ?_, fun hw hs => ?_, fun hw hs => ?_⟩
  · exact replies_refuse rfl hw (by simp [carryStartRound, hs])
  · exact replies_refuse rfl hw (by simp [carryStartRound, hs, hf])
  · exact replies_refuse rfl hw (by simp [carryOpenRound, hs])
  · exact replies_refuse rfl hw (by rcases hs with h | h <;> simp [carryCloseRound, h])
  · exact replies_refuse rfl hw (by simp [carryJudge, hs])
  · exact replies_refuse rfl hw (by simp [carryJudge, hs, hv])
  · exact replies_refuse rfl hw (by simp [carryRevealKey, hs])
  · refine replies_refuse rfl hw ?_
    cases hk : OptKey.ofCode b with
    | none => simp [carryRevealKey, hs, hk]
    | some k =>
      have hout : s.setup.options.toNat < b.toNat := by
        rcases hb with h | h | h
        · simp [OptKey.ofCode_of_out (.inl h)] at hk
        · simp [OptKey.ofCode_of_out (.inr h)] at hk
        · exact h
      simp [carryRevealKey, hs, hk, OptKey.ofCode_place hk, Nat.not_le.mpr hout]
  · exact replies_refuse rfl hw (by rcases hs with h | h | h | h <;> simp [carryPause, h, EngineState.pausable])
  · exact replies_refuse rfl hw (by simp [carryResume, hs])
  · exact replies_refuse rfl hw (by rcases hs with h | h <;> simp [carryAbandon, State.live, h, EngineState.live])

end Sys2Proof.Machine
end

section
/-! The rounds: the start, the opening, the pauses and the abandoning of a round (R22 to R31, R43 to R46). -/

namespace Sys2Proof.Machine

/-! ### Closing in another state of the round -/

/-- A close in `w` leaves and tells what a close in `s` does: the two states differ only in what a close clears, and in the
answers, the standings, the boards and the link (R47). -/
structure Closing (s w : State) : Prop where
  context : w.context.closed = s.context.closed
  clock : w.engine.clock = s.engine.clock
  serial : w.engine.serial = s.engine.serial
  tieStart : w.engine.tieStart = s.engine.tieStart
  list : w.list = s.list
  queue : w.arbiter.queue = s.arbiter.queue
  lamps : { w.consoles with floorLamps := [], lockLamps := [] } = { s.consoles with floorLamps := [], lockLamps := [] }
  intake : w.intake = s.intake
  free : w.free = s.free
  pending : w.pending = s.pending

namespace Closing

variable {s w : State}

/-- States that differ in the answers, the standings, the boards and the link alone. -/
theorem of_round (hengine : w.engine = s.engine) (hlist : w.list = s.list) (harbiter : w.arbiter = s.arbiter)
    (hconsoles : w.consoles = s.consoles) (hintake : w.intake = s.intake) (hfree : w.free = s.free)
    (hpending : w.pending = s.pending) : Closing s w := by
  constructor <;> simp [State.context, *]

theorem trans {u : State} (h : Closing s w) (k : Closing w u) : Closing s u where
  context := k.context.trans h.context
  clock := k.clock.trans h.clock
  serial := k.serial.trans h.serial
  tieStart := k.tieStart.trans h.tieStart
  list := k.list.trans h.list
  queue := k.queue.trans h.queue
  lamps := k.lamps.trans h.lamps
  intake := k.intake.trans h.intake
  free := k.free.trans h.free
  pending := k.pending.trans h.pending

theorem slot (h : Closing s w) : w.context.slot = s.context.slot := congrArg (fun x => x.slot) h.context
theorem kind (h : Closing s w) : w.context.kind = s.context.kind := congrArg (fun x => x.kind) h.context
theorem claims (h : Closing s w) : w.context.claimsAdmitted = s.context.claimsAdmitted :=
  congrArg (fun x => x.claimsAdmitted) h.context
theorem grants (h : Closing s w) : w.context.grantCount = s.context.grantCount := congrArg (fun x => x.grantCount) h.context
theorem wrong (h : Closing s w) : w.context.wrongCount = s.context.wrongCount := congrArg (fun x => x.wrongCount) h.context

theorem resultOf (h : Closing s w) (o : RoundOutcome) (n : Option Nat) : w.resultOf o n = s.resultOf o n := by
  simp only [State.resultOf, h.kind, h.claims, h.wrong, h.clock]

theorem closeReport (h : Closing s w) (o : RoundOutcome) (n : Option Nat) : closeReport w o n = closeReport s o n := by
  simp only [Machine.closeReport, h.slot, h.kind, h.claims, h.wrong, h.grants, h.clock, h.serial, h.queue]

theorem walkReport (h : Closing s w) : walkReport w = walkReport s := by
  have hslots : w.slotAt = s.slotAt := congrArg (fun (l : RoundList) (k : Fin 128) => l.slots.getD k.val Slot.blank) h.list
  unfold Machine.walkReport
  rw [h.slot, hslots]

theorem closes (h : Closing s w) {t : State} {o : RoundOutcome} {n : Option Nat} (k : Closes w t o n) : Closes s t o n :=
  k.of_before h.context h.clock h.serial h.tieStart h.list h.lamps h.intake h.free h.pending

theorem close_closes (h : Closing s w) (o : RoundOutcome) (hlen : s.list.slots.length = 128) :
    Closes s (w.close o) o none :=
  h.closes (w.close_closes o (by rw [h.list, hlen]))

theorem close_tells (h : Closing s w) (o : RoundOutcome) (hlen : s.list.slots.length = 128) :
    Tells w (w.close o) [Machine.closeReport s o none, Machine.walkReport s] := by
  rw [← h.closeReport, ← h.walkReport]
  exact w.close_tells o (by rw [h.list, hlen])

end Closing

theorem Closes.result {s t : State} {o : RoundOutcome} {n : Option Nat} (h : Closes s t o n) :
    (t.slotAt s.context.slot).result = s.resultOf o n := by
  rw [h.1, if_pos rfl]

/-- The round's slot keeps its descriptor over a close. -/
theorem Closes.setup {s t : State} {o : RoundOutcome} {n : Option Nat} (h : Closes s t o n) :
    (t.slotAt s.context.slot).setup = (s.slotAt s.context.slot).setup := by
  rw [h.1, if_pos rfl]

theorem Tells.of_link_eq {s u t : State} {told : List Report} (h : Tells u t told) (hlink : u.link = s.link) : Tells s t told := by
  unfold Tells at h ⊢
  rw [h, hlink]

/-! ### What an engine command replies -/

/-- With no remembered state an engine command replies the engine state alone (R22, log 15). -/
theorem State.engineReply_of_none {s : State} (h : s.engine.remembered = none) :
    s.engineReply = [s.engine.state.code, 0xFF] := by
  simp [State.engineReply, h, formCode?_eq]

theorem State.close_remembered (s : State) (o : RoundOutcome) : (s.close o).engine.remembered = none := by
  obtain ⟨x, _, h⟩ := s.close_engine o
  rw [h]

theorem State.close_clock (s : State) (o : RoundOutcome) : (s.close o).engine.clock = s.engine.clock := by
  obtain ⟨x, _, h⟩ := s.close_engine o
  rw [h]

theorem State.testGrant_remembered {s : State} (h : s.engine.remembered = none) : s.testGrant.engine.remembered = none := by
  rcases s.testGrant_cases with e | ⟨c, rest, _, _, e⟩ | ⟨_, _, e⟩
  · rw [e, h]
  · rw [e, State.grant_engine, h]
  · rw [e, State.close_remembered]

theorem State.testGrant_of_ne_settling {s : State} (h : s.engine.state ≠ .settling) : s.testGrant = s := by
  simp [State.testGrant, h]

/-! ### Starting a round -/

theorem getLsbD_foldl_twoPow (p : Nat → Bool) (ts : List Nat) (x : BitVec 24) {i : Nat} (hi : i < 24) :
    (ts.foldl (fun acc t => if p t then acc ||| BitVec.twoPow 24 (t - 1) else acc) x).getLsbD i =
      (x.getLsbD i || ts.any fun t => p t && decide (t - 1 = i)) := by
  induction ts generalizing x with
  | nil => simp
  | cons t ts ih =>
    rw [List.foldl_cons, ih, List.any_cons, ← Bool.or_assoc]
    by_cases h : p t <;> simp [h, hi, eq_comm]

theorem mem_teamNumbers_iff (t : Nat) : t ∈ teamNumbers ↔ 1 ≤ t ∧ t ≤ 24 := by
  simp only [teamNumbers, List.mem_map, List.mem_range, teamCount]
  exact ⟨fun ⟨i, hi, h⟩ => by omega, fun h => ⟨t - 1, by omega, by omega⟩⟩

/-- The teams that TEAMS counts are those of the team set that are playing (R124, R131). -/
theorem getLsbD_countedTeams (s : State) (d : Descriptor) {i : Nat} (hi : i < 24) :
    (countedTeams s d).getLsbD i = (d.teamSet.getLsbD i && (s.standings.teamAt (i + 1)).playing) := by
  have hteam : isTeamNumber (i + 1) = true := (isTeamNumber_iff _).mpr (by omega)
  have hself : (inSet d.teamSet (i + 1) && s.standings.isPlaying (i + 1)) =
      (d.teamSet.getLsbD i && (s.standings.teamAt (i + 1)).playing) := by
    simp [inSet, Standings.isPlaying, hteam]
  rw [countedTeams, getLsbD_foldl_twoPow _ _ _ hi, ← hself, show (0 : BitVec 24).getLsbD i = false from BitVec.getLsbD_zero, Bool.false_or, Bool.eq_iff_iff, List.any_eq_true]
  simp only [mem_teamNumbers_iff, Bool.and_eq_true, decide_eq_true_eq]
  constructor
  · rintro ⟨t, ht, hp, rfl⟩
    rwa [Nat.sub_add_cancel ht.1]
  · exact fun hp => ⟨i + 1, by omega, hp, rfl⟩

/-- The opening of a round is the entry to OPEN of its context (R30). -/
theorem State.openRound_entersOpen {s : State} {c : Context} (h : s.engine.round = some c) : EntersOpen s s.openRound c := by
  unfold EntersOpen State.openRound State.openTieStart
  simp only [State.context_of_some h, h]
  rfl

theorem State.raise_engine_setup (s : State) (e : Event) : (s.raise e).engine = s.engine ∧ (s.raise e).setup = s.setup :=
  ⟨rfl, rfl⟩

/-- Settles O32: START ROUND's fresh context and cleared answers, and the entry to OPEN by command and by timer. -/
theorem roundsStartAndOpen : Obligations.RoundsStartAndOpen := by
  refine ⟨fun d => rfl, fun s hw hcued hfrozen hlen => ?_, fun s c hreading hround => ⟨fun hw hnone => ?_, fun hzero => ?_, fun hleft => ?_⟩⟩
  · refine ⟨s.start, s.list.pointer, (s.slotAt s.list.pointer).setup, s.engine.serial + 1, rfl, rfl, rfl, ?reply, s.start_engine,
      fun j => s.slotAt_setSlot s.list.pointer j _ hlen, rfl, rfl, rfl, rfl, rfl, rfl, rfl, rfl,
      ⟨countedTeams s (s.slotAt s.list.pointer).setup, rfl, fun i hi => getLsbD_countedTeams s _ hi⟩, rfl, rfl, rfl, rfl, rfl, rfl,
      rfl, rfl, rfl, rfl⟩
    case reply =>
      refine replies_done rfl hw ?_
      simp only [carryStartRound, hcued, hfrozen, form1_eq, ne_eq, not_true_eq_false, if_false, Bool.false_eq_true,
        State.start_engine, BitVec.ofNat_toNat]
      rfl
  · refine ⟨s.openRound, State.openRound_entersOpen hround, replies_done rfl hw ?_⟩
    have hremembered : s.openRound.engine.remembered = none := hnone
    rw [carryOpenRound, if_pos hreading, State.engineReply_of_none hremembered]
    rfl
  · refine ⟨_, State.openRound_entersOpen (s := s.raise (.timerExpired .reading none none)) hround, ?_⟩
    simp [exec, execReadingTimerExpiry, hreading, State.context_of_some hround, hzero]
  · simp [exec, execReadingTimerExpiry, hreading, State.context_of_some hround, hleft]

/-! ### Pausing and abandoning -/

theorem State.live_iff (s : State) : s.live = true ↔ s.engine.state ≠ .idle ∧ s.engine.state ≠ .cued := by
  unfold State.live
  cases s.engine.state <;> simp [EngineState.live]

theorem State.phase_of_paused {s : State} {x : EngineState} (h : s.engine.state = .paused) (hx : s.engine.remembered = some x) :
    s.phase = x := by
  simp [State.phase, h, hx]

/-- The answers after ABANDON (R130). -/
theorem State.discardTally_answers (s : State) : s.discardTally.answers =
    if (s.context.kind = .choice ∨ s.context.kind = .poll) ∧ s.answers.tallyState = .none then
      { s.answers with tallyState := .discarded, tally := none } else s.answers := by
  unfold State.discardTally
  simp only [Bool.and_eq_true, Bool.or_eq_true, decide_eq_true_eq]
  split <;> rfl

/-- Settles O33: PAUSE and RESUME on the engine, the grant test where the round settles, and ABANDON as a close. -/
theorem roundsPauseResumeAndAbandon : Obligations.RoundsPauseResumeAndAbandon := by
  refine ⟨fun s => ⟨s.live_iff, State.phase_of_ne_paused, fun x => State.phase_of_paused⟩, fun s hlen =>
    ⟨fun hw hs => ?_, fun x u hw hpaused hx hne hu => ?_, fun hw hlive => ?_⟩⟩
  · have hpausable : s.engine.state.pausable = true := by
      revert hs
      cases s.engine.state <;> simp [EngineState.pausable]
    refine replies_done rfl hw ?_
    rw [carryPause, if_pos hpausable]
    rfl
  · have hphase : s.phase = x := State.phase_of_paused hpaused hx
    have hunpause : s.unpause = u := by rw [hu, State.unpause, hphase]
    have hnone : u.engine.remembered = none := by rw [hu]; rfl
    have hstate : u.engine.state = x := by rw [hu]; rfl
    refine ⟨fun hsettling hdue => replies_done rfl hw ?_, fun hsettling => replies_done rfl hw ?_, fun hopened hdue =>
      ⟨_, rfl, replies_done rfl hw ?_⟩⟩
    · have hresume : s.resume = u := by
        have hnot : ¬(x = .opened ∧ s.context.settleDue = true) := fun ⟨h, hd⟩ => by simp [hdue h] at hd
        have htest : u.testGrant = u := State.testGrant_of_ne_settling (hstate ▸ hsettling)
        simp [State.resume, hphase, hnot, hunpause, htest]
      rw [carryResume, if_pos hpaused, hresume, State.engineReply_of_none hnone, hstate]
    · have hresume : s.resume = u.testGrant := by simp [State.resume, hphase, hsettling, hunpause]
      rw [carryResume, if_pos hpaused, hresume, State.engineReply_of_none (State.testGrant_remembered hnone)]
    · have hresume : s.resume = u.settleNow.testGrant := by simp [State.resume, hphase, hopened, hdue, hunpause]
      rw [carryResume, if_pos hpaused, hresume, State.engineReply_of_none (State.testGrant_remembered (s := u.settleNow) hnone)]
      rfl
  · have hclosing : Closing s s.discardTally := .of_round (by simp) (by simp) (by simp) (by simp) (by simp) (by simp) (by simp)
    have hcloses : Closes s s.abandon .abandoned none := hclosing.close_closes .abandoned hlen
    refine ⟨s.abandon, replies_done rfl hw ?_, ?_, hcloses.result, hcloses, ?_, State.close_arbiter _ _, State.close_remembered _ _,
      ?_, by simp [State.abandon], by simp [State.abandon], by simp [State.abandon],
      (hclosing.close_tells .abandoned hlen).of_link_eq (by simp)⟩
    · rw [carryAbandon, if_pos hlive, State.engineReply_of_none (s := s.abandon) (State.close_remembered _ _)]
    · obtain ⟨x, hx, h⟩ := s.discardTally.close_engine .abandoned
      rw [State.abandon, h]
      exact hx
    · rw [State.abandon, ← s.discardTally_answers]
      exact (s.discardTally.close_untouched .abandoned).2.1
    · rw [State.abandon, State.close_clock, hclosing.clock]

end Sys2Proof.Machine
end

section
/-! The Answer Collector: how a tally completes, the shares that it pays, and what becomes of an answer (R40 to R42, R114 to
R130). -/

namespace Sys2Proof.Machine

/-! ### A round on its way into and out of TALLYING -/

/-- The engine of the round with another state and another close mark (R40, R41). -/
def State.marked (s : State) (x : EngineState) (m : Option Nat) : State :=
  s.setEngine { s.engine with state := x, round := s.engine.round.map fun c => { c with closeMark := m } }

theorem State.marked_context_closed (s : State) (x : EngineState) (m : Option Nat) :
    (s.marked x m).context.closed = s.context.closed := by
  unfold State.marked State.context
  cases s.engine.round <;> rfl

theorem State.marked_slot (s : State) (x : EngineState) (m : Option Nat) : (s.marked x m).context.slot = s.context.slot :=
  congrArg (fun c => c.slot) (s.marked_context_closed x m)

theorem State.marked_kind (s : State) (x : EngineState) (m : Option Nat) : (s.marked x m).context.kind = s.context.kind :=
  congrArg (fun c => c.kind) (s.marked_context_closed x m)

theorem State.marked_setup (s : State) (x : EngineState) (m : Option Nat) : (s.marked x m).setup = s.setup := by
  unfold State.setup
  rw [s.marked_slot]
  rfl

theorem State.marked_closeMark_none (s : State) (x : EngineState) : (s.marked x none).context.closeMark = none := by
  unfold State.marked State.context
  cases s.engine.round <;> rfl

theorem State.marked_closeMark {s : State} (h : s.engine.round.isSome = true) (x : EngineState) (m : Option Nat) :
    (s.marked x m).context.closeMark = m := by
  obtain ⟨c, hc⟩ := Option.isSome_iff_exists.mp h
  rw [State.context_of_some (c := { c with closeMark := m }) (by simp [State.marked, hc])]

theorem State.marked_countNow (s : State) (x : EngineState) (m : Option Nat) : (s.marked x m).countNow = s.countNow := by
  have hplay : (s.marked x m).inPlay = s.inPlay := by
    funext t
    unfold State.inPlay
    rw [s.marked_setup]
    rfl
  unfold State.countNow
  rw [s.marked_setup, s.marked_kind, hplay]
  rfl

theorem Closing.marked (s : State) (x : EngineState) (m : Option Nat) (l : Link) : Closing s ((s.marked x m).setLink l) where
  context := s.marked_context_closed x m
  clock := rfl
  serial := rfl
  tieStart := rfl
  list := rfl
  queue := rfl
  lamps := rfl
  intake := rfl
  free := rfl
  pending := rfl

/-- The TALLY COUNTED event is that of the round, whatever its close mark (R125). -/
theorem countedEvent_marked (s : State) (x : EngineState) (m : Option Nat) (l : Link) :
    ((s.marked x m).setLink l).countedEvent s.countNow = (countedReport s).event := by
  have hsetup : ((s.marked x m).setLink l).setup = s.setup := s.marked_setup x m
  have hkind : ((s.marked x m).setLink l).context.kind = s.context.kind := s.marked_kind x m
  have hslot : ((s.marked x m).setLink l).context.slot = s.context.slot := s.marked_slot x m
  have hteams : s.countNow.teamsAnswering = (List.range 24).countP fun i => 0 < (s.countNow.members.getD i none).getD 0 := by
    simp [Tally.teamsAnswering, teamNumbers, List.countP_map, Function.comp_def, Tally.membersOf, teamCount]
  simp only [State.countedEvent, countedReport, hsetup, hkind, hslot, hteams]
  rfl

/-! ### The completion of a tally -/

/-- The state in which the tally of the round has been counted and told, the engine being in `x` (R41, R125). -/
def State.counted (s : State) (x : EngineState) (l : Link) (st : TallyState) (y : Tally) : State :=
  (((s.marked x none).setLink l).setTally st (some y)).raise (countedReport s).event

theorem Closing.counted (s : State) (x : EngineState) (l : Link) (st : TallyState) (y : Tally) :
    Closing s (s.counted x l st y) :=
  (Closing.marked s x none l).trans (.of_round rfl rfl rfl rfl rfl rfl rfl)

theorem State.counted_tells {s : State} {x : EngineState} {m : Option Nat} {l : Link} {begun : List Report}
    (h : Tells s ((s.marked x m).setLink l) begun) (st : TallyState) (y : Tally) :
    Tells s (s.counted x l st y) (begun ++ [countedReport s]) := by
  exact h.trans ((((s.marked x none).setLink l).setTally st (some y)).raise_tells (countedReport s).event)

theorem State.scoreChanges_closing (s : State) (qs : List ScoreRequest) : Closing s (s.scoreChanges qs) :=
  .of_round (by simp) (by simp) (by simp) (by simp) (by simp) (by simp) (by simp)

/-- The shares are paid and the round closes SCORED (R47, R126). -/
theorem State.payShares_closing {s w : State} (h : Closing s w) (y : Tally) (hlen : s.list.slots.length = 128) :
    Closes s (w.payShares y) .scored none ∧
      Tells w (w.payShares y)
        (scoreReports (some s.engine.serial) w.standings y.requests ++ [closeReport s .scored none, walkReport s]) ∧
      (w.payShares y).standings = y.requests.foldl Standings.apply w.standings ∧ (w.payShares y).answers = w.answers ∧
      (w.payShares y).intake = w.intake ∧ (w.payShares y).board = w.board ∧ (w.payShares y).live = false := by
  have htells := w.payShares_tells y (by rw [h.list, hlen])
  rw [h.closeReport, h.walkReport, h.serial] at htells
  refine ⟨(h.trans (w.scoreChanges_closing y.requests)).close_closes .scored hlen, htells, ?_, ?_, ?_, ?_, State.close_live _ _⟩
  · simp [State.payShares]
  · simp [State.payShares]
  · simp [State.payShares]
  · simp [State.payShares]

theorem Closes.closeMark {s t : State} {o : RoundOutcome} {n : Option Nat} (h : Closes s t o n) : t.context.closeMark = none := by
  obtain ⟨_, _, _, _, _, _, _, _, hcontext, _⟩ := h
  rw [hcontext]

theorem Closes.clock {s t : State} {o : RoundOutcome} {n : Option Nat} (h : Closes s t o n) : t.engine.clock = s.engine.clock := by
  obtain ⟨_, _, _, _, _, hclock, _⟩ := h
  exact hclock

theorem State.completeTally_marked (s : State) (x : EngineState) (m : Option Nat) (l : Link) :
    ((s.marked x m).setLink l).completeTally =
      if s.context.kind = .choice then ((s.marked x none).setLink l).completeChoice s.countNow
      else (s.counted x l .counted s.countNow).close .polled := by
  have hunmark : ((s.marked x m).setLink l).mapContext (fun c => { c with closeMark := none }) = (s.marked x none).setLink l := by
    unfold State.mapContext State.marked
    cases hr : s.engine.round <;> simp <;> rfl
  have hkind : ((s.marked x m).setLink l).context.kind = s.context.kind := s.marked_kind x m
  have hcount : ((s.marked x m).setLink l).countNow = s.countNow := s.marked_countNow x m
  simp only [State.completeTally, hunmark, hkind, hcount, countedEvent_marked]
  rfl

theorem State.completeChoice_of_held {s : State} (x : EngineState) (l : Link) (h : s.setup.key = .held) :
    ((s.marked x none).setLink l).completeChoice s.countNow =
      ((s.counted x l .counted s.countNow).enter .awaitKey).raise (.roundAwaitingKey s.context.slot) := by
  have hsetup : ((s.marked x none).setLink l).setup = s.setup := s.marked_setup x none
  have hslot : ((s.marked x none).setLink l).context.slot = s.context.slot := s.marked_slot x none
  simp only [State.completeChoice, hsetup, h, hslot, countedEvent_marked]
  rfl

theorem State.completeChoice_of_given {s : State} (x : EngineState) (l : Link) {k : OptKey} (h : s.setup.key = .given k) :
    ((s.marked x none).setLink l).completeChoice s.countNow =
      (s.counted x l .keyed (s.countNow.keyed s.answers s.setup.basePoints.toNat k)).payShares
        (s.countNow.keyed s.answers s.setup.basePoints.toNat k) := by
  have hsetup : ((s.marked x none).setLink l).setup = s.setup := s.marked_setup x none
  simp only [State.completeChoice, hsetup, h, countedEvent_marked]
  rfl

/-- A tally completes in one of the three ways of R41. -/
theorem TallyCompletes.of_marked {s : State} (x : EngineState) (m : Option Nat) (l : Link) {begun : List Report}
    (hlen : s.list.slots.length = 128) (hkind : s.context.kind = .choice ∨ s.context.kind = .poll)
    (h : Tells s ((s.marked x m).setLink l) begun) : TallyCompletes s ((s.marked x m).setLink l).completeTally begun := by
  rw [s.completeTally_marked]
  by_cases hchoice : s.context.kind = .choice
  case neg =>
    have hpoll : s.context.kind = .poll := hkind.resolve_left hchoice
    rw [if_neg hchoice]
    have hclosing := Closing.counted s x l .counted s.countNow
    have hcloses := hclosing.close_closes .polled hlen
    obtain ⟨hintake, hanswers, hstandings, hboard⟩ := (s.counted x l .counted s.countNow).close_untouched .polled
    refine ⟨?_, ?_, hintake, hboard, hcloses.clock, hcloses.closeMark, fun _ => ⟨?_, ?_, hstandings, hanswers, hcloses.result,
      State.close_live _ _, hcloses, ?_⟩, fun hc => absurd hc hchoice, fun k hc => absurd hc hchoice⟩
    · rw [hanswers]; rfl
    · rw [hanswers]; rfl
    · rw [hanswers]; rfl
    · rw [hanswers]; rfl
    · have htells := (State.counted_tells h .counted s.countNow).trans (hclosing.close_tells .polled hlen)
      rwa [List.append_assoc] at htells
  case pos =>
    rw [if_pos hchoice]
    have hnot : s.context.kind ≠ .poll := by rw [hchoice]; decide
    cases hkey : s.setup.key with
    | held =>
      rw [State.completeChoice_of_held x l hkey]
      have htells := (State.counted_tells h .counted s.countNow).trans
        (((s.counted x l .counted s.countNow).enter .awaitKey).raise_tells (.roundAwaitingKey s.context.slot))
      rw [List.append_assoc] at htells
      exact ⟨rfl, rfl, rfl, rfl, rfl, s.marked_closeMark_none .awaitKey, fun hp => absurd hp hnot, fun _ _ => ⟨rfl, rfl, rfl, rfl, rfl, rfl,
        rfl, rfl, rfl, rfl, rfl, htells⟩, fun k _ hk => by simp [hkey] at hk⟩
    | given k =>
      rw [State.completeChoice_of_given x l hkey]
      have hclosing := Closing.counted s x l .keyed (s.countNow.keyed s.answers s.setup.basePoints.toNat k)
      obtain ⟨hcloses, htells, hstandings, hanswers, hintake, hboard, hlive⟩ := State.payShares_closing hclosing
        (s.countNow.keyed s.answers s.setup.basePoints.toNat k) hlen
      refine ⟨?_, ?_, hintake, hboard, hcloses.clock, hcloses.closeMark, fun hp => absurd hp hnot, fun _ hk => (by simp [hkey] at hk),
        fun j _ hj => ?_⟩
      · rw [hanswers]; rfl
      · rw [hanswers]; rfl
      · obtain rfl : k = j := RoundKey.given.inj (hkey.symm.trans hj)
        refine ⟨_, rfl, ?_, ?_, hstandings, hanswers, hcloses.result, hlive, hcloses, ?_⟩
        · rw [hanswers]; rfl
        · rw [hanswers]; rfl
        · have := (State.counted_tells h .keyed (s.countNow.keyed s.answers s.setup.basePoints.toNat k)).trans htells
          rw [List.append_assoc] at this
          rwa [List.append_assoc, List.cons_append]

/-! ### The test of the tally -/

theorem State.testTally_of_not {s : State} (h : s.engine.state ≠ .tallying ∨ s.context.closeMark = none) : s.testTally = s := by
  unfold State.testTally
  rcases h with h | h
  · split <;> simp [h]
  · simp [h]

theorem State.testTally_of_mark {s : State} {m : Nat} (hstate : s.engine.state = .tallying) (hmark : s.context.closeMark = some m) :
    s.testTally = if s.intakeHolds m = true then s else s.completeTally := by
  cases h : s.intakeHolds m <;> simp [State.testTally, hmark, hstate, h]

/-- A round already in TALLYING is marked as it is. -/
theorem State.marked_self (s : State) : (s.marked s.engine.state s.context.closeMark).setLink s.link = s := by
  have hround : (s.engine.round.map fun c => { c with closeMark := s.context.closeMark }) = s.engine.round := by
    unfold State.context
    cases s.engine.round <;> rfl
  unfold State.marked
  rw [hround]
  rfl

/-- The entry to TALLYING: the entries that arrived in time are waited for, or the tally completes at once (R40, R41). -/
theorem State.enterTallying_cases {s : State} (hlen : s.list.slots.length = 128)
    (hkind : s.context.kind = .choice ∨ s.context.kind = .poll) (hround : s.engine.round.isSome = true) :
    (s.intakeHolds s.engine.clock = true → EntersTallying s s.enterTallying) ∧
    (s.intakeHolds s.engine.clock = false → TallyCompletes s s.enterTallying [tallyingReport s]) := by
  have hentered : ∃ l, s.enterTallying = ((s.marked .tallying (some s.engine.clock)).setLink l).testTally ∧
      (s.marked .tallying (some s.engine.clock)).setLink l =
        (s.marked .tallying (some s.engine.clock)).raise (.roundTallying s.engine.clock) := ⟨_, rfl, rfl⟩
  obtain ⟨l, henter, hl⟩ := hentered
  have hmark : ((s.marked .tallying (some s.engine.clock)).setLink l).context.closeMark = some s.engine.clock :=
    State.marked_closeMark hround .tallying _
  have htest := State.testTally_of_mark (s := (s.marked .tallying (some s.engine.clock)).setLink l) rfl hmark
  refine ⟨fun hholds => ?_, fun hfree => ?_⟩
  · have hsame : ((s.marked .tallying (some s.engine.clock)).setLink l).intakeHolds s.engine.clock = true := hholds
    rw [henter, htest, if_pos hsame, hl]
    rfl
  · have htells : Tells s ((s.marked .tallying (some s.engine.clock)).setLink l) [tallyingReport s] := by
      rw [hl]; exact (s.marked .tallying (some s.engine.clock)).raise_tells (.roundTallying s.engine.clock)
    have hnot : ¬((s.marked .tallying (some s.engine.clock)).setLink l).intakeHolds s.engine.clock = true := by
      rw [Bool.not_eq_true]; exact hfree
    rw [henter, htest, if_neg hnot]
    exact .of_marked .tallying _ l hlen hkind htells

theorem EntersTallying.remembered {s t : State} (h : EntersTallying s t) : t.engine.remembered = s.engine.remembered := by
  rw [h]; rfl

theorem TallyCompletes.remembered {s t : State} {begun : List Report} (h : TallyCompletes s t begun)
    (hkind : s.context.kind = .choice ∨ s.context.kind = .poll) (hnone : s.engine.remembered = none) :
    t.engine.remembered = none := by
  obtain ⟨_, _, _, _, _, _, hpoll, hheld, hgiven⟩ := h
  rcases hkind with hk | hk
  · cases hkey : s.setup.key with
    | held =>
      obtain ⟨_, _, _, _, _, hengine, _⟩ := hheld hk hkey
      rw [hengine, hnone]
    | given k =>
      obtain ⟨_, _, _, _, _, _, _, _, hcloses, _⟩ := hgiven k hk hkey
      obtain ⟨_, _, _, _, hremembered, _⟩ := hcloses
      exact hremembered
  · obtain ⟨_, _, _, _, _, _, hcloses, _⟩ := hpoll hk
    obtain ⟨_, _, _, _, hremembered, _⟩ := hcloses
    exact hremembered

theorem State.roundTimerCounts_of_not {s : State} (h : s.engine.state ∉ [.opened, .settling]) : s.roundTimerCounts = false := by
  simp only [List.mem_cons, List.not_mem_nil, or_false, not_or] at h
  simp [State.roundTimerCounts, h]

/-- CLOSE ROUND in OPEN enters TALLYING (R22, R40). -/
theorem replies_closeRound {s : State} (hw : s.waitingCommand = some .closeRound) (hopened : s.engine.state = .opened)
    (hkind : s.context.kind ≠ .buzz) (hnone : s.enterTallying.engine.remembered = none) :
    Replies .closeRound s s.enterTallying .done [s.enterTallying.engine.state.code, 0xFF] := by
  refine replies_done rfl hw ?_
  rw [← State.engineReply_of_none hnone]
  simp [carryCloseRound, hopened, hkind]

/-- The round timer at 0 in OPEN takes a CHOICE or POLL round to TALLYING (R32, R40). -/
theorem exec_roundTimerExpiry_of_opened {s : State} (hopened : s.engine.state = .opened) (hleft : s.context.roundLeft = some 0)
    (hkind : s.context.kind ≠ .buzz) :
    exec .roundTimerExpiry s = .next (s.raise (.timerExpired .round none none)).enterTallying := by
  simp [exec, execRoundTimerExpiry, State.roundTimerCounts, hopened, hleft, State.roundTimeUp, hkind]

/-- Settles O34: the entry to TALLYING by command and by timer, and the completion that follows. -/
theorem roundsAreTallied : Obligations.RoundsAreTallied := by
  refine ⟨fun s => State.testTally_of_not, fun m s hlen hstate hmark hkind => ⟨fun hholds => ?_, fun hfree => ?_⟩,
    fun s hnot => ?_, fun s hlen hopened hnone hkind hround => ?_⟩
  · rw [State.testTally_of_mark hstate hmark, if_pos hholds]
  · rw [State.testTally_of_mark hstate hmark, if_neg (by simp [hfree])]
    have hself := TallyCompletes.of_marked s.engine.state s.context.closeMark s.link (begun := []) hlen hkind
      (Tells.of_link (by rw [s.marked_self]))
    rwa [s.marked_self] at hself
  · have : (s.roundTimerCounts && decide (s.context.roundLeft = some 0)) = false := by
      rcases hnot with h | h
      · rw [State.roundTimerCounts_of_not h, Bool.false_and]
      · simp [h]
    simp [exec, execRoundTimerExpiry, this]
  · have hbuzz : s.context.kind ≠ .buzz := by rcases hkind with h | h <;> rw [h] <;> decide
    obtain ⟨henters, hcompletes⟩ := State.enterTallying_cases hlen hkind hround
    obtain ⟨henters', hcompletes'⟩ :=
      State.enterTallying_cases (s := s.raise (.timerExpired .round none none)) hlen hkind hround
    refine ⟨fun hw => ⟨fun hholds => ⟨_, henters hholds, ?_⟩, fun hfree => ⟨_, hcompletes hfree, ?_⟩⟩, fun hleft =>
      ⟨fun hholds => ⟨_, henters' hholds, exec_roundTimerExpiry_of_opened hopened hleft hbuzz⟩, fun hfree =>
        ⟨_, hcompletes' hfree, exec_roundTimerExpiry_of_opened hopened hleft hbuzz⟩⟩⟩
    · have h := replies_closeRound hw hopened hbuzz ((henters hholds).remembered.trans hnone)
      rw [henters hholds] at h ⊢
      exact h
    · exact replies_closeRound hw hopened hbuzz ((hcompletes hfree).remembered hkind hnone)

theorem OptKey.ofCode_code (k : OptKey) : OptKey.ofCode k.code = some k := by cases k <;> rfl

/-- The state in which the key has been revealed and told (R128). -/
def State.revealed (s : State) (k : OptKey) (z : Tally) : State :=
  (s.setTally .keyed (some z)).raise (keyedReport s k z).event

theorem Closing.revealed (s : State) (k : OptKey) (z : Tally) : Closing s (s.revealed k z) :=
  .of_round rfl rfl rfl rfl rfl rfl rfl

theorem State.revealed_tells (s : State) (k : OptKey) (z : Tally) : Tells s (s.revealed k z) [keyedReport s k z] :=
  (s.setTally .keyed (some z)).raise_tells (keyedReport s k z).event

theorem State.keyTally_eq {s : State} {y : Tally} (k : OptKey) (h : s.answers.tally = some y) :
    s.keyTally k = (s.revealed k { y.keyed s.answers s.setup.basePoints.toNat k with revealed := some k }).payShares
      { y.keyed s.answers s.setup.basePoints.toNat k with revealed := some k } := by
  have hteams (z : Tally) : z.teamsRight = (List.range 24).countP fun i => 0 < (z.right.getD i none).getD 0 := by
    simp [Tally.teamsRight, teamNumbers, List.countP_map, Function.comp_def, teamCount]
  simp only [State.keyTally, h, hteams]
  rfl

/-- Settles O35: the key makes the keyed tally, which is told, paid and closed. -/
theorem revealKeyScoresTheRound : Obligations.RevealKeyScoresTheRound := by
  intro b k y s hw hlen hstate hround htally hcode hplace
  have hclosing := Closing.revealed s k { y.keyed s.answers s.setup.basePoints.toNat k with revealed := some k }
  obtain ⟨hcloses, htells, hstandings, hanswers, hintake, hboard, hlive⟩ := State.payShares_closing hclosing
    { y.keyed s.answers s.setup.basePoints.toNat k with revealed := some k } hlen
  rw [← State.keyTally_eq k htally] at hcloses htells hstandings hanswers hintake hboard hlive
  refine ⟨s.keyTally k, _, rfl, replies_done rfl hw ?_, hlive, ?_, ?_, ?_, hstandings, hanswers, hcloses, hcloses.result, hcloses.setup,
    hintake, hboard, ?_⟩
  · obtain ⟨_, _, _, _, hremembered, _⟩ := hcloses
    rw [← State.engineReply_of_none hremembered, ← hcode]
    simp [carryRevealKey, hstate, OptKey.ofCode_code, hplace]
  · rw [hanswers]; rfl
  · rw [hanswers]; rfl
  · rw [hanswers]; rfl
  · exact (s.revealed_tells k _).trans htells

/-! ### The place of an answer in the table -/

section
variable {α : Type} {l : List α} {n : Nat} {f : α → Bool}

theorem findIdx?_drop_eq_some {i : Nat} (h : (l.drop n).findIdx? f = some i) :
    (∃ e, l[n + i]? = some e ∧ f e = true) ∧ ∀ q e, n ≤ q → q < n + i → l[q]? = some e → f e = false := by
  obtain ⟨hi, hat, hbefore⟩ := List.findIdx?_eq_some_iff_getElem.mp h
  have helem (j : Nat) (hj : j < (l.drop n).length) : l[n + j]? = some (l.drop n)[j] := by
    rw [← List.getElem?_drop, List.getElem?_eq_getElem hj]
  refine ⟨⟨_, helem i hi, hat⟩, fun q e hlow hhigh hq => ?_⟩
  have hj : q - n < i := by omega
  have hq' := helem (q - n) (by omega)
  rw [Nat.add_sub_cancel' hlow, hq] at hq'
  rw [Option.some.inj hq']
  exact Bool.eq_false_iff.mpr (hbefore (q - n) hj)

theorem findIdx?_drop_eq_none : (l.drop n).findIdx? f = none ↔ ∀ q e, n ≤ q → l[q]? = some e → f e = false := by
  rw [List.findIdx?_eq_none_iff]
  constructor
  · intro h q e hlow hq
    refine h e (List.mem_iff_getElem?.mpr ⟨q - n, ?_⟩)
    rw [List.getElem?_drop, Nat.add_sub_cancel' hlow, hq]
  · intro h e he
    obtain ⟨i, hi⟩ := List.mem_iff_getElem?.mp he
    exact h (n + i) e (Nat.le_add_right _ _) (by rwa [List.getElem?_drop] at hi)

end

/-- A guest's place: the slot that holds its id, else the lowest free one (R120). -/
theorem Collector.guestPosition_eq_some {x : Collector} {n : BitVec 16} {p : Nat} (h : x.guestPosition n = some p) :
    192 ≤ p ∧ ((∃ e, x.table[p]? = some (some e) ∧ e.handset = n) ∨
      ((∀ (q : Nat) (e : AnswerEntry), 192 ≤ q → x.table[q]? = some (some e) → e.handset ≠ n) ∧
        x.table[p]? = some none ∧ ∀ q, 192 ≤ q → q < p → x.table[q]? ≠ some none)) := by
  unfold Collector.guestPosition at h
  dsimp only at h
  split at h
  next i hheld =>
    obtain ⟨⟨e, he, hid⟩, _⟩ := findIdx?_drop_eq_some hheld
    obtain ⟨d, rfl, hd⟩ : ∃ d, e = some d ∧ d.handset = n := by simpa using hid
    have hi : guestBase + i = p := Option.some.inj h
    rw [hi] at he
    exact ⟨hi ▸ Nat.le_add_right 192 i, .inl ⟨d, he, hd⟩⟩
  next hheld =>
    have hno := findIdx?_drop_eq_none.mp hheld
    obtain ⟨i, hfree, hi⟩ := Option.map_eq_some_iff.mp h
    obtain ⟨⟨e, he, hnone⟩, hbefore⟩ := findIdx?_drop_eq_some hfree
    obtain rfl : e = none := by simpa using hnone
    rw [hi] at he hbefore
    refine ⟨hi ▸ Nat.le_add_right 192 i, .inr ⟨fun q d hlow hq hd => ?_, he, fun q hlow hlt hq => ?_⟩⟩
    · simpa [hd] using hno q (some d) hlow hq
    · simpa using hbefore q none hlow hlt hq

/-- A guest finds no slot where every one is taken by another (R120). -/
theorem Collector.guestPosition_eq_none {x : Collector} {n : BitVec 16} : x.guestPosition n = none ↔
    ∀ q e, 192 ≤ q → x.table[q]? = some e → ∃ d : AnswerEntry, e = some d ∧ d.handset ≠ n := by
  unfold Collector.guestPosition
  dsimp only
  split
  next i hheld =>
    obtain ⟨⟨e, he, hid⟩, _⟩ := findIdx?_drop_eq_some hheld
    refine ⟨fun h => by simp at h, fun h => ?_⟩
    obtain ⟨d, rfl, hd⟩ := h _ e (Nat.le_add_right 192 i) he
    simp [hd] at hid
  next hheld =>
    have hno := findIdx?_drop_eq_none.mp hheld
    rw [Option.map_eq_none_iff, findIdx?_drop_eq_none]
    refine ⟨fun hfree q e hlow hq => ?_, fun h q e hlow hq => ?_⟩
    · cases e with
      | none => simpa using hfree q none hlow hq
      | some d => exact ⟨d, rfl, by simpa using hno q (some d) hlow hq⟩
    · obtain ⟨d, rfl, _⟩ := h q e hlow hq
      rfl

theorem Collector.positionOf_of_roster {x : Collector} {k : AnswerKey} {p : Nat} (h : k.position = some p) :
    x.positionOf k = some p := by
  simp [Collector.positionOf, h]

theorem Collector.positionOf_of_guest {x : Collector} {k : AnswerKey} (h : k.position = none) :
    x.positionOf k = x.guestPosition k.handset := by
  simp [Collector.positionOf, h]

theorem Collector.entryAt_of_getElem? {x : Collector} {p : Nat} {e : Option AnswerEntry} (h : x.table[p]? = some e) :
    x.entryAt p = e := by
  simp [Collector.entryAt, h]

/-! ### What an answer does -/

theorem Collector.take_rest (x : Collector) (k : AnswerKey) (o : AnswerOutcome) :
    (x.take k o).counts = x.counts.add o ∧ (x.take k o).fullMark = (x.fullMark || decide (o = .audienceFull)) ∧
      (x.take k o).tableSerial = x.tableSerial ∧ (x.take k o).tallyState = x.tallyState ∧ (x.take k o).tally = x.tally ∧
      (x.take k o).about = x.about := by
  unfold Collector.take
  cases o <;> split <;> simp_all

theorem Collector.take_table_of_recorded {x : Collector} {k : AnswerKey} {p : Nat} (h : x.positionOf k = some p) :
    (x.take k .recorded).table = x.table.set p (some k.entry) := by
  simp [Collector.take, h]

theorem Collector.take_table_of_changed {x : Collector} {k : AnswerKey} {p : Nat} (h : x.positionOf k = some p) :
    (x.take k .changed).table = x.table.set p ((x.entryAt p).map fun e => e.changedTo k) := by
  simp [Collector.take, h]

theorem Collector.take_table_of_refused {x : Collector} {k : AnswerKey} {o : AnswerOutcome} (h : o ∉ [.recorded, .changed]) :
    (x.take k o).table = x.table := by
  cases o <;> simp_all [Collector.take]

theorem AnswerCounts.add_eq (c : AnswerCounts) (o : AnswerOutcome) : c.add o =
    ⟨if o = .recorded then min 65535 (c.recorded + 1) else c.recorded,
      if o = .changed then min 65535 (c.changed + 1) else c.changed,
      if o = .ignored then min 65535 (c.ignored + 1) else c.ignored,
      if o = .paused then min 65535 (c.paused + 1) else c.paused,
      if o = .early then min 65535 (c.early + 1) else c.early,
      if o = .late then min 65535 (c.late + 1) else c.late,
      if o = .audienceFull then min 65535 (c.audienceFull + 1) else c.audienceFull⟩ := by
  cases o <;> rfl

theorem State.answer_answers (s : State) (k : AnswerKey) : (s.answer k).answers = s.answers.take k (s.answerOutcome k) := by
  unfold State.answer
  dsimp only
  split <;> rfl

theorem State.answer_link (s : State) (k : AnswerKey) : (s.answer k).link =
    if s.answerOutcome k = .audienceFull ∧ s.answers.fullMark = false then
      s.link.note ⟨some s.engine.serial, .audienceFull k.handset⟩ else s.link := by
  by_cases h : s.answerOutcome k = .audienceFull ∧ s.answers.fullMark = false
  · simp only [State.answer, h, decide_true, Bool.not_false, Bool.and_self, if_true]
    rfl
  · rw [if_neg h]
    have hnot : (decide (s.answerOutcome k = .audienceFull) && !s.answers.fullMark) = false := by simpa using h
    simp [State.answer, hnot]

theorem State.answer_eq (s : State) (k : AnswerKey) :
    s.answer k = (s.setAnswers (s.answer k).answers).setLink (s.answer k).link := by
  unfold State.answer
  dsimp only
  split <;> rfl

/-! ### The checks of an answer -/

theorem State.isEarly_iff (s : State) (n : Int) : s.isEarly n = true ↔ ∀ t, s.context.openTime = some t → n < t := by
  unfold State.isEarly
  cases s.context.openTime <;> simp

theorem State.isLateAnswer_iff (s : State) (a : Nat) : s.isLateAnswer a = true ↔
    s.phase = .awaitKey ∨ (s.phase = .tallying ∧ ∃ m, s.context.closeMark = some m ∧ m < a) := by
  unfold State.isLateAnswer
  cases s.phase <;> cases s.context.closeMark <;> simp

theorem State.mayAnswer_iff {s : State} {k : AnswerKey} (h : s.context.kind = .choice ∨ s.context.kind = .poll) :
    s.mayAnswer k = true ↔
      s.context.kind = .poll ∨ (k.position ≠ none ∧ ∃ n, k.team = some n ∧ s.inPlay n = true) := by
  rcases h with h | h <;> simp only [State.mayAnswer, h]
  · cases k.position <;> cases k.team <;> simp
  · simp

/-- In time and unpaused, a key is decided by the options, by who may answer and by its place (R117). -/
theorem State.answerOutcome_inTime {s : State} {k : AnswerKey} (hbuzz : s.context.kind ≠ .buzz) (hpaused : k.paused = false)
    (hearly : s.isEarly k.stamp = false) (hlate : s.isLateAnswer k.arrival = false) :
    (s.setup.options.toNat < k.option.place ∨ s.mayAnswer k = false → s.answerOutcome k = .ignored) ∧
    (k.option.place ≤ s.setup.options.toNat → s.mayAnswer k = true →
      (∀ p e, s.answers.positionOf k = some p → s.answers.table[p]? = some (some e) →
        s.answerOutcome k = if s.setup.answerLock = .first then .ignored else .changed) ∧
      (∀ p, s.answers.positionOf k = some p → s.answers.table[p]? = some none → s.answerOutcome k = .recorded) ∧
      (s.answers.positionOf k = none → s.answerOutcome k = .audienceFull)) := by
  refine ⟨fun h => ?_, fun hplace hmay => ⟨fun p e hp he => ?_, fun p hp he => ?_, fun hp => ?_⟩⟩
  · rcases h with h | h
    · simp [State.answerOutcome, hbuzz, hpaused, hearly, hlate, h]
    · simp [State.answerOutcome, hbuzz, hpaused, hearly, hlate, h]
  · cases hlock : s.setup.answerLock <;>
      simp [State.answerOutcome, hbuzz, hpaused, hearly, hlate, Nat.not_lt.mpr hplace, hmay, hp, Collector.entryAt_of_getElem? he,
        hlock]
  · simp [State.answerOutcome, hbuzz, hpaused, hearly, hlate, Nat.not_lt.mpr hplace, hmay, hp, Collector.entryAt_of_getElem? he]
  · simp [State.answerOutcome, hbuzz, hpaused, hearly, hlate, Nat.not_lt.mpr hplace, hmay, hp]

/-- Settles O36: the checks in order, the place in the table, and what each outcome changes. -/
theorem answersAreCheckedAndRecorded : Obligations.AnswersAreCheckedAndRecorded := by
  rintro s k o x y rfl rfl rfl
  rw [State.answer_answers]
  obtain ⟨hcounts, hfull, hserial, htallyState, htally, habout⟩ := s.answers.take_rest k (s.answerOutcome k)
  refine ⟨fun hbuzz => by simp [State.answerOutcome, hbuzz], fun hkind => ?checks, fun p => Collector.positionOf_of_roster,
    fun p hguest hp => ?guest, fun hguest => ?noPlace, fun p ho hp => ?recorded, fun p e ho hp he => ?changed, Collector.take_table_of_refused,
    hcounts.trans (AnswerCounts.add_eq _ _), hfull, hserial, htallyState, htally, s.answer_link k, habout, ?whole, by simp, by simp,
    by simp, by simp, by simp, by simp⟩
  case guest => exact Collector.guestPosition_eq_some (Collector.positionOf_of_guest hguest ▸ hp)
  case noPlace => rw [Collector.positionOf_of_guest hguest, Collector.guestPosition_eq_none]
  case recorded => rw [ho, Collector.take_table_of_recorded hp]; rfl
  case changed => rw [ho, Collector.take_table_of_changed hp, Collector.entryAt_of_getElem? he]; rfl
  case whole => rw [← State.answer_answers]; exact s.answer_eq k
  case checks =>
    have hbuzz : s.context.kind ≠ .buzz := by rcases hkind with h | h <;> rw [h] <;> decide
    refine ⟨fun hpaused => by simp [State.answerOutcome, hbuzz, hpaused], fun hpaused hearly => ?_, fun t hpaused hopen hstamp =>
      ⟨fun hlate => ?_, fun hnotAwait hintime => ?_⟩⟩
    · simp [State.answerOutcome, hbuzz, hpaused, (s.isEarly_iff k.stamp).mpr hearly]
    all_goals
      have hearly : s.isEarly k.stamp = false := by
        rw [← Bool.not_eq_true, s.isEarly_iff]
        exact fun h => absurd (h t hopen) (not_lt.mpr hstamp)
    · simp [State.answerOutcome, hbuzz, hpaused, hearly, (s.isLateAnswer_iff k.arrival).mpr hlate]
    · have hlate : s.isLateAnswer k.arrival = false := by
        rw [← Bool.not_eq_true, s.isLateAnswer_iff]
        rintro (h | ⟨h, m, hm, hlt⟩)
        · exact hnotAwait h
        · exact absurd (hintime h m hm) (not_le.mpr hlt)
      obtain ⟨hignored, hplaced⟩ := State.answerOutcome_inTime hbuzz hpaused hearly hlate
      refine ⟨fun h => hignored (.inl h), fun hchoice hwho => hignored (.inr ?_), fun hplace hwho => hplaced hplace ((State.mayAnswer_iff hkind).mpr hwho)⟩
      rw [← Bool.not_eq_true, State.mayAnswer_iff hkind]
      rintro (h | ⟨hposition, n, hn, hplay⟩)
      · rw [hchoice] at h; cases h
      · rcases hwho with h | h
        · exact hposition h
        · rw [h n hn] at hplay; cases hplay

/-! ### What a tally counts -/

theorem getElem?_map_teamNumbers {α : Type} (f : Nat → α) {t : Nat} (ht : isTeamNumber t = true) :
    (teamNumbers.map f)[t - 1]? = some (f t) := by
  obtain ⟨hlow, hhigh⟩ := (isTeamNumber_iff t).mp ht
  have hindex : t - 1 < 24 := by omega
  simp [teamNumbers, teamCount, hindex, Nat.sub_add_cancel hlow]

theorem State.inPlay_eq (s : State) (t : Nat) :
    s.inPlay t = (isTeamNumber t && s.setup.teamSet.getLsbD (t - 1) && (s.standings.teamAt t).playing) := by
  cases h : isTeamNumber t <;> simp [State.inPlay, inSet, Standings.isPlaying, h]

theorem getElem?_keysInPlay {n i : Nat} (hn : i < n) (h6 : i < 6) :
    ∃ k : OptKey, (keysInPlay n)[i]? = some k ∧ ∀ o : OptKey, o = k ↔ o.place = i + 1 := by
  simp only [keysInPlay, List.getElem?_take, hn, if_true]
  interval_cases i <;> refine ⟨_, rfl, fun o => ?_⟩ <;> cases o <;> decide

theorem Collector.count_counts_getElem? (x : Collector) {n i : Nat} (poll : Bool) (counted : Nat → Bool) (hn : i < n) (h6 : i < 6) :
    (x.count n poll counted).counts[i]? = some ((x.table.filterMap id).countP fun e => e.option.place = i + 1) := by
  obtain ⟨k, hk, hplace⟩ := getElem?_keysInPlay hn h6
  simp only [Collector.count, List.getElem?_map, hk, Option.map_some, Collector.countOf, Collector.entries, hplace]

theorem Collector.count_membersOf (x : Collector) (n : Nat) (poll : Bool) (counted : Nat → Bool) {t : Nat} (ht : isTeamNumber t = true) :
    (x.count n poll counted).members.getD (t - 1) none =
      if poll = false ∧ counted t = true then some (x.teamCount t) else none := by
  rw [Collector.count, getD_map_teamNumbers _ none ht]
  simp

/-- Settles O37: the counts of a tally by option and by team, and its shares. -/
theorem talliesCountTheAnswers : Obligations.TalliesCountTheAnswers := by
  refine ⟨fun y => rfl, fun s => ?_, ?_⟩
  · have hplay : s.inPlay = fun t =>
        isTeamNumber t && (s.slotAt s.context.slot).setup.teamSet.getLsbD (t - 1) && (s.standings.teamAt t).playing :=
      funext s.inPlay_eq
    rw [State.countNow, hplay]
    rfl
  · rintro x n p poll counted k y rfl
    refine ⟨rfl, fun i hn h6 => x.count_counts_getElem? poll counted hn h6, ?_, fun hpoll => ?_, fun t ht => ⟨?_, ?_, ?_⟩⟩
    · simp [Collector.count, keysInPlay, allOptions]
    · simp only [Collector.count, hpoll, if_true, List.map_map]
      refine List.map_congr_left fun k _ => ?_
      simp [percentOf, Nat.mul_comm]
    · rw [Collector.count, getElem?_map_teamNumbers _ ht]
      simp [Collector.teamCount, Collector.entries]
    · rw [Tally.keyed, getElem?_map_teamNumbers _ ht, x.count_membersOf n poll counted ht]
      split <;> rfl
    · rw [Tally.keyed_shareAt _ _ _ _ ht, Tally.membersOf, x.count_membersOf n poll counted ht]
      by_cases h : poll = false ∧ counted t = true
      · simp only [h, and_self, true_and, if_true, Option.getD_some]
        rfl
      · have hnone : ¬(poll = false ∧ counted t = true ∧ 0 < (x.table.filterMap id).countP fun e => e.team = some t) :=
          fun ⟨hp, hc, _⟩ => h ⟨hp, hc⟩
        rw [if_neg h, if_neg hnone]
        rfl

end Sys2Proof.Machine
end

section
/-! The Floor Arbiter: the admission checks, what an admitted, a replacing and a refused claim change, false starts, the grant
and the verdicts (R92 to R111). -/

namespace Sys2Proof.Machine

/-! ### The admission checks -/

theorem State.inPlay_iff (s : State) (t : Nat) : s.inPlay t = true ↔
    isTeamNumber t = true ∧ s.setup.teamSet.getLsbD (t - 1) = true ∧ (s.standings.teamAt t).playing = true := by
  rw [s.inPlay_eq]
  simp [and_assoc]

theorem Arbiter.claimOf_eq_none_iff (x : Arbiter) (t : Nat) : x.claimOf t = none ↔ ∀ c ∈ x.queue, c.team ≠ t := by
  simp [Arbiter.claimOf]

theorem Arbiter.claimOf_eq_some {x : Arbiter} {t : Nat} {c : QueuedClaim} (h : x.claimOf t = some c) :
    c ∈ x.queue ∧ c.team = t :=
  ⟨List.mem_of_find?_eq_some h, by simpa using List.find?_some h⟩

theorem State.isFalseStart_iff (s : State) (o : Offer) : s.isFalseStart o = true ↔
    s.phase = .reading ∨ ∀ t, s.context.openTime = some t → o.stamp < t := by
  unfold State.isFalseStart
  cases s.context.openTime <;> simp

theorem State.isLate_iff (s : State) (n : Int) : s.isLate n = true ↔
    ∃ e, s.context.timeCalled = true ∧ s.context.expiryStamp = some e ∧ (e : Int) ≤ n := by
  unfold State.isLate
  cases s.context.expiryStamp <;> simp

theorem State.beforeReopen_iff (s : State) (n : Int) : s.beforeReopen n = true ↔ ∃ m, s.arbiter.reopen = some m ∧ n < m := by
  unfold State.beforeReopen
  cases s.arbiter.reopen <;> simp

/-- What the checks have passed when a claim gets beyond them. -/
structure State.Unobstructed (s : State) (o : Offer) : Prop where
  unpaused : o.paused = false
  inPlay : s.inPlay o.team = true
  notFalse : s.isFalseStart o = false

theorem State.claimOutcome_of_paused {s : State} {o : Offer} (h : o.paused = true) : s.claimOutcome o = .paused := by
  simp [State.claimOutcome, h]

theorem State.claimOutcome_of_not_inPlay {s : State} {o : Offer} (h : o.paused = false) (hplay : s.inPlay o.team = false) :
    s.claimOutcome o = .notInPlay := by
  simp [State.claimOutcome, h, hplay]

theorem State.claimOutcome_of_false {s : State} {o : Offer} (h : o.paused = false) (hplay : s.inPlay o.team = true)
    (hfalse : s.isFalseStart o = true) : s.claimOutcome o = s.falseStartOutcome o.team := by
  simp [State.claimOutcome, h, hplay, hfalse]

namespace State.Unobstructed
variable {s : State} {o : Offer} (h : s.Unobstructed o)
include h

theorem locked (hlock : s.context.lockOf o.team ≠ none) : s.claimOutcome o = .locked := by
  simp [State.claimOutcome, h.unpaused, h.inPlay, h.notFalse, Option.isSome_iff_ne_none, hlock]

variable (hfree : s.context.lockOf o.team = none)
include hfree

theorem holdsFloor (hfloor : s.context.holder.map Holder.team = some o.team) : s.claimOutcome o = .holdsFloor := by
  simp only [State.claimOutcome, h.unpaused, h.inPlay, h.notFalse, hfree, hfloor]
  rfl

variable (hfloor : s.context.holder.map Holder.team ≠ some o.team)
include hfloor

theorem late (hlate : s.isLate o.stamp = true) : s.claimOutcome o = .late := by
  simp only [State.claimOutcome, h.unpaused, h.inPlay, h.notFalse, hfree, hfloor, hlate]
  rfl

theorem beforeReopen (hlate : s.isLate o.stamp = false) (hreopen : s.beforeReopen o.stamp = true) :
    s.claimOutcome o = .beforeReopen := by
  simp only [State.claimOutcome, h.unpaused, h.inPlay, h.notFalse, hfree, hfloor, hlate, hreopen]
  rfl

theorem fresh (hlate : s.isLate o.stamp = false) (hreopen : s.beforeReopen o.stamp = false)
    (hnone : s.arbiter.claimOf o.team = none) : s.claimOutcome o = .admitted := by
  simp only [State.claimOutcome, h.unpaused, h.inPlay, h.notFalse, hfree, hfloor, hlate, hreopen, hnone]
  rfl

theorem queued (hlate : s.isLate o.stamp = false) (hreopen : s.beforeReopen o.stamp = false) {c : QueuedClaim}
    (hc : s.arbiter.claimOf o.team = some c) : s.claimOutcome o = if o.stamp < c.stamp then .replaced else .duplicate := by
  simp only [State.claimOutcome, h.unpaused, h.inPlay, h.notFalse, hfree, hfloor, hlate, hreopen, hc]
  rfl

end State.Unobstructed

/-- A claim that enters the queue or moves in it is not stamped before the opening, so its stamp is not below 0 (R93). -/
theorem State.stamp_nonneg_of_outcome {s : State} {o : Offer} (h : s.claimOutcome o = .admitted ∨ s.claimOutcome o = .replaced) :
    0 ≤ o.stamp := by
  by_contra hneg
  have hfalse : s.isFalseStart o = true := by
    rw [s.isFalseStart_iff]
    exact .inr fun t _ => by omega
  cases hpaused : o.paused with
  | true => simp [State.claimOutcome_of_paused hpaused] at h
  | false =>
    cases hplay : s.inPlay o.team with
    | false => simp [State.claimOutcome_of_not_inPlay hpaused hplay] at h
    | true =>
      rw [State.claimOutcome_of_false hpaused hplay hfalse] at h
      unfold State.falseStartOutcome at h
      split at h <;> try split_ifs at h
      all_goals simp at h

/-! ### A claim in the queue -/

theorem placeOf_of_mem {q : List QueuedClaim} {c : QueuedClaim} (h : c ∈ q) :
    ∃ p, (q[p]?).map QueuedClaim.team = some c.team ∧ placeOf q c.team = some (p + 1) := by
  cases hf : q.findIdx? fun d => decide (d.team = c.team) with
  | none => simpa using List.findIdx?_eq_none_iff.mp hf c h
  | some p =>
    obtain ⟨hp, hteam, _⟩ := List.findIdx?_eq_some_iff_getElem.mp hf
    refine ⟨p, ?_, by simp [placeOf, hf]⟩
    rw [List.getElem?_eq_getElem hp, Option.map_some, of_decide_eq_true hteam]

theorem State.queueWith_perm (s : State) (c : QueuedClaim) :
    (s.queueWith c).Perm (c :: s.arbiter.queue.filter fun d => d.team ≠ c.team) :=
  insertClaim_perm s.engine.tieStart c _

/-- A placed claim is told with its place, the head being place 1 (R111, log 20). -/
theorem State.place_told (s : State) (o : Offer) (x : ClaimOutcome) (c : QueuedClaim) (old : Option Nat) (hteam : c.team = o.team)
    (hstamp : 0 ≤ o.stamp) : ∃ p, ((s.queueWith c)[p]?).map QueuedClaim.team = some o.team ∧
      (s.place o x c old).link = s.link.note
        ⟨some s.engine.serial, .claim o.team x o.stamp 0 o.source o.arrival (some c.number) (some (p + 1)) old⟩ := by
  have hmem : c ∈ s.queueWith c := (s.queueWith_perm c).mem_iff.mpr List.mem_cons_self
  obtain ⟨p, hp, hplace⟩ := placeOf_of_mem hmem
  refine ⟨p, hteam ▸ hp, ?_⟩
  have hcode : s.stampCode o.stamp = 0 := if_neg (not_lt.mpr hstamp)
  unfold State.place
  rw [hplace, hcode]
  rfl

theorem State.eq_paused_of_phase {s : State} {x : EngineState} (hphase : s.phase = x) (hstate : s.engine.state ≠ x) :
    s.engine.state = .paused := by
  by_contra h
  rw [State.phase_of_ne_paused h] at hphase
  exact hstate hphase

/-- The change to SETTLING at a first admission, made at once or left due (R36, R45, R94). -/
theorem State.settleFromOpen_round {s : State} (h : s.engine.round.isSome = true) : s.settleFromOpen.context =
    { s.context with settleDue := s.context.settleDue || (s.engine.state = .paused && s.phase = .opened) } := by
  obtain ⟨c, hc⟩ := Option.isSome_iff_exists.mp h
  unfold State.settleFromOpen
  split
  next hopened =>
    have hnot : s.engine.state ≠ .paused := by rw [hopened]; decide
    simp only [hnot, decide_false, Bool.false_and, Bool.or_false]
    rfl
  next hstate =>
    split
    next hphase =>
      rw [State.context_of_map (s := s) (f := fun c => { c with settleDue := true }) rfl h]
      simp [State.eq_paused_of_phase hphase hstate, hphase]
    next hphase => simp [hphase]

theorem State.settleFromOpen_state (s : State) : s.settleFromOpen.engine =
    { s.engine with
      state := if s.engine.state = .opened then .settling else s.engine.state, round := s.settleFromOpen.engine.round } := by
  unfold State.settleFromOpen
  split
  · simp
  · split <;> simp

/-! ### Refused, admitted and replacing claims -/

/-- A refused claim changes nothing but that its CLAIM event is told (R93, R111). -/
theorem State.tellRefusal_eq (s : State) (o : Offer) (x : ClaimOutcome) : s.tellRefusal o x =
    (s.setLink (s.link.note
      ⟨some s.engine.serial,
        .claim o.team x o.stamp (if o.stamp < 0 then Config.unstatedStamp s.free o.stamp.natAbs else 0) o.source o.arrival none none
          none⟩)).setFree (if o.stamp < 0 then s.free + 1 else s.free) := by
  unfold State.tellRefusal State.useStamp State.refusalEvent State.stampCode
  split <;> rfl

theorem State.tellRefusal_tells (s : State) (o : Offer) (x : ClaimOutcome) : Tells s (s.tellRefusal o x)
    [⟨some s.engine.serial,
      .claim o.team x o.stamp (if o.stamp < 0 then Config.unstatedStamp s.free o.stamp.natAbs else 0) o.source o.arrival none none
        none⟩] := by
  rw [State.tellRefusal_eq]
  rfl

theorem State.offer_of_refused {s : State} {o : Offer}
    (h : s.claimOutcome o ∈ [.duplicate, .locked, .holdsFloor, .late, .paused, .notInPlay, .beforeReopen, .falseStartIgnored,
      .falseStartAlreadyLocked]) : s.offer o = s.tellRefusal o (s.claimOutcome o) := by
  unfold State.offer
  generalize s.claimOutcome o = x at h ⊢
  cases x <;> simp at h <;> rfl

/-- The state in which an admitted claim is in the queue and told, before the grant test (R36, R97, R99). -/
def State.admitted (s : State) (o : Offer) : State :=
  ((s.place o .admitted ⟨o.team, o.stamp.toNat, o.source, s.nextNumber⟩ none).mapContext
    fun x => { x with claimsAdmitted := s.nextNumber }).settleFromOpen

theorem State.offer_of_admitted {s : State} {o : Offer} (h : s.claimOutcome o = .admitted) : s.offer o = (s.admitted o).testGrant := by
  unfold State.offer
  rw [h]
  rfl

theorem State.admitted_engine (s : State) (o : Offer) : (s.admitted o).engine =
    { s.engine with
      state := if s.engine.state = .opened then .settling else s.engine.state
      round := (s.admitted o).engine.round } :=
  State.settleFromOpen_state _

theorem State.admitted_context {s : State} (o : Offer) (h : s.engine.round.isSome = true) : (s.admitted o).context =
    { s.context with
      claimsAdmitted := s.nextNumber
      settleDue := s.context.settleDue || (s.engine.state = .paused && s.phase = .opened) } := by
  have hplaced : ((s.place o .admitted ⟨o.team, o.stamp.toNat, o.source, s.nextNumber⟩ none).mapContext
      fun x => { x with claimsAdmitted := s.nextNumber }).context = { s.context with claimsAdmitted := s.nextNumber } :=
    State.context_of_map (s := s) (f := fun x => { x with claimsAdmitted := s.nextNumber }) rfl h
  unfold State.admitted
  rw [State.settleFromOpen_round (by simpa using h), hplaced]
  rfl

theorem State.offer_of_replaced {s : State} {o : Offer} {c : QueuedClaim} (h : s.claimOutcome o = .replaced)
    (hc : s.arbiter.claimOf o.team = some c) :
    s.offer o = (s.place o .replaced ⟨o.team, o.stamp.toNat, o.source, c.number⟩ (some c.stamp)).testGrant := by
  unfold State.offer
  rw [h]
  simp only [State.replace, hc]

/-- Settles O38: the checks in order, and what an admitted, a replacing and a refused claim change. -/
theorem claimsAreCheckedAndQueued : Obligations.ClaimsAreCheckedAndQueued := by
  refine ⟨State.inPlay_iff, fun x t => ⟨x.claimOf_eq_none_iff t, fun c => Arbiter.claimOf_eq_some⟩, fun n a b => QueuedClaim.before_iff,
    fun s o => ⟨State.claimOutcome_of_paused, fun hpaused => ⟨State.claimOutcome_of_not_inPlay hpaused, fun hplay =>
      ⟨s.isFalseStart_iff o, State.claimOutcome_of_false hpaused hplay, fun hfalse => ?checks⟩⟩, fun hrefused => ?refused,
      fun hadmitted => ?taken, fun c hreplaced hc => ?replaced⟩⟩
  case checks =>
    have hpass : s.Unobstructed o := ⟨hpaused, hplay, hfalse⟩
    refine ⟨hpass.locked, fun hfree => ⟨hpass.holdsFloor hfree, fun hfloor => ⟨fun hlate =>
      hpass.late hfree hfloor ((s.isLate_iff _).mpr hlate), fun hnotLate => ?_⟩⟩⟩
    have hlate : s.isLate o.stamp = false := by
      rw [← Bool.not_eq_true, s.isLate_iff]
      rintro ⟨e, hcalled, he, hle⟩
      exact absurd (hnotLate e hcalled he) (not_lt.mpr hle)
    refine ⟨fun hreopen => hpass.beforeReopen hfree hfloor hlate ((s.beforeReopen_iff _).mpr hreopen), fun hnotBefore => ?_⟩
    have hreopen : s.beforeReopen o.stamp = false := by
      rw [← Bool.not_eq_true, s.beforeReopen_iff]
      rintro ⟨m, hm, hlt⟩
      exact absurd (hnotBefore m hm) (not_le.mpr hlt)
    exact ⟨hpass.fresh hfree hfloor hlate hreopen, fun c => hpass.queued hfree hfloor hlate hreopen⟩
  case refused => rw [State.offer_of_refused hrefused, State.tellRefusal_eq]
  case taken =>
    obtain ⟨p, hp, hlink⟩ := s.place_told o .admitted ⟨o.team, o.stamp.toNat, o.source, s.nextNumber⟩ none rfl
      (State.stamp_nonneg_of_outcome (.inl hadmitted))
    have hqueue : (s.admitted o).arbiter.queue = s.queueWith ⟨o.team, o.stamp.toNat, o.source, s.nextNumber⟩ := by
      simp [State.admitted, State.place, State.setQueue]
    have hengine := s.admitted_engine o
    refine ⟨s.admitted o, s.nextNumber, rfl, State.offer_of_admitted hadmitted, ?_, fun h => State.admitted_context o h, ⟨p, ?_, ?_⟩, ?_, ?_,
      ?_, ?_, ?_, ?_, ?_, ?_, ?_, ?_, ?_, ?_, ?_, ?_⟩
    · rw [hqueue]; exact s.queueWith_perm _
    · rwa [hqueue]
    · have : (s.admitted o).link = (s.place o .admitted ⟨o.team, o.stamp.toNat, o.source, s.nextNumber⟩ none).link := by
        simp [State.admitted]
      rw [this, hlink]
    · simp [State.admitted, State.place, State.setQueue]
    · rw [hengine]
    · rw [hengine]
    · rw [hengine]
    · rw [hengine]
    · rw [hengine]
    all_goals simp [State.admitted]
  case replaced =>
    obtain ⟨p, hp, hlink⟩ := s.place_told o .replaced ⟨o.team, o.stamp.toNat, o.source, c.number⟩ (some c.stamp) rfl
      (State.stamp_nonneg_of_outcome (.inr hreplaced))
    exact ⟨_, State.offer_of_replaced hreplaced hc, rfl, s.queueWith_perm _, ⟨p, hp, hlink⟩, rfl, rfl, rfl, rfl, rfl, rfl, rfl, rfl, rfl⟩

/-! ### False starts -/

/-- What a false start that locks has changed before the grant test, `told` being what follows its CLAIM event (R95). -/
structure FalseStarted (s u : State) (o : Offer) (x : ClaimOutcome) (scores : Standings) (told : List Report) : Prop where
  engine : u.engine = { s.engine with round := s.engine.round.map fun c => c.lock o.team .falseStart }
  consoles : u.consoles = { s.consoles with lockLamps := s.consoles.lockLamps.set (o.team - 1) .on }
  queue : u.arbiter.queue = withoutTeam s.arbiter.queue o.team
  reopen : u.arbiter.reopen = s.arbiter.reopen
  standings : u.standings = scores
  tells : Tells (s.tellRefusal o x) u told
  list : u.list = s.list
  intake : u.intake = s.intake
  answers : u.answers = s.answers
  board : u.board = s.board
  pending : u.pending = s.pending

/-- The reports of the withdrawal of a locked team's claim (R95, R111). -/
def State.lockedOut (s : State) (t : Nat) : List Report :=
  (s.arbiter.claimOf t).toList.map fun c => ⟨some s.engine.serial, c.withdrawn .falseStartLock⟩

theorem State.withdrawLocked_tells (s : State) (t : Nat) : Tells s (s.withdrawLocked t) (s.lockedOut t) := by
  unfold State.withdrawLocked State.lockedOut
  cases s.arbiter.claimOf t <;> rfl

theorem State.withdrawLocked_reopen (s : State) (t : Nat) : (s.withdrawLocked t).arbiter.reopen = s.arbiter.reopen := by
  unfold State.withdrawLocked
  split <;> rfl

theorem State.lockedOut_of {s w : State} (harbiter : w.arbiter = s.arbiter) (hserial : w.engine.serial = s.engine.serial) (t : Nat) :
    w.lockedOut t = s.lockedOut t := by
  unfold State.lockedOut
  rw [harbiter, hserial]

/-- The state in which a false start has been told and its team locked (R95). -/
def State.barred (s : State) (o : Offer) (x : ClaimOutcome) : State := (s.tellRefusal o x).lockTeam o.team .falseStart

theorem State.barred_setup (s : State) (o : Offer) (x : ClaimOutcome) : (s.barred o x).setup = s.setup := by
  have hslot : (s.barred o x).context.slot = s.context.slot := by
    unfold State.context State.barred
    rw [State.lockTeam_engine]
    cases h : s.engine.round with
    | none => simp [h]
    | some c => simp [h, Context.lock_slot]
  unfold State.setup State.slotAt
  rw [hslot]
  simp [State.barred]

theorem State.falseStartLock_started (s : State) (o : Offer) : FalseStarted s ((s.barred o .falseStartLocked).withdrawLocked o.team) o
    .falseStartLocked s.standings (s.lockedOut o.team) where
  engine := by simp [State.barred]
  consoles := by simp [State.barred, State.lockTeam, State.setLockLamp]
  queue := by simp [State.barred]
  reopen := by rw [State.withdrawLocked_reopen]; simp [State.barred]
  standings := by simp [State.barred]
  tells := by
    have h := (s.barred o .falseStartLocked).withdrawLocked_tells o.team
    rw [State.lockedOut_of (s := s) (by simp [State.barred]) (by simp [State.barred])] at h
    exact h
  list := by simp [State.barred]
  intake := by simp [State.barred]
  answers := by simp [State.barred]
  board := by simp [State.barred]
  pending := by simp [State.barred]

theorem State.setup_of {s w : State} (hengine : w.engine = s.engine) (hlist : w.list = s.list) : w.setup = s.setup := by
  simp [State.setup, State.slotAt, State.context, hengine, hlist]

theorem State.penalise_tells (s : State) (t : Nat) :
    Tells s (s.penalise t) [scoreReport (some s.engine.serial) (falseStartRequest s.setup t) s.standings] :=
  s.scoreChange_tells (falseStartRequest s.setup t)

theorem State.penalise_standings (s : State) (t : Nat) :
    (s.penalise t).standings = s.standings.apply (falseStartRequest s.setup t) := rfl

/-- A false start that penalises: the score change and the withdrawal, told in one order or the other (R95, log 12). -/
def State.penalised (s : State) (o : Offer) : State :=
  if (s.arbiter.claimOf o.team).isSome then
    if Config.penaltyBeforeWithdrawal (s.barred o .falseStartPenalised).free then
      ((((s.barred o .falseStartPenalised).setFree ((s.barred o .falseStartPenalised).free + 1)).penalise o.team).withdrawLocked o.team)
    else (((s.barred o .falseStartPenalised).setFree ((s.barred o .falseStartPenalised).free + 1)).withdrawLocked o.team).penalise o.team
  else (s.barred o .falseStartPenalised).penalise o.team

/-- The report of the penalty of a false start (R95, R152). -/
def State.penaltyReport (s : State) (o : Offer) : Report :=
  scoreReport (some s.engine.serial) (falseStartRequest s.setup o.team) s.standings

theorem State.penalised_started (s : State) (o : Offer) : ∃ told, told.Perm (s.lockedOut o.team ++ [s.penaltyReport o]) ∧
    FalseStarted s (s.penalised o) o .falseStartPenalised (s.standings.apply (falseStartRequest s.setup o.team)) told := by
  have hsetup := s.barred_setup o .falseStartPenalised
  let v := (s.barred o .falseStartPenalised).setFree ((s.barred o .falseStartPenalised).free + 1)
  have hvsetup : v.setup = s.setup := hsetup
  have hpenalty (w : State) (hw : w.setup = s.setup) (hserial : w.engine.serial = s.engine.serial)
      (hstandings : w.standings = s.standings) : Tells w (w.penalise o.team) [s.penaltyReport o] := by
    rw [State.penaltyReport, ← hw, ← hserial, ← hstandings]
    exact w.penalise_tells o.team
  have hout (w : State) (harbiter : w.arbiter = s.arbiter) (hserial : w.engine.serial = s.engine.serial) :
      Tells w (w.withdrawLocked o.team) (s.lockedOut o.team) :=
    State.lockedOut_of harbiter hserial o.team ▸ w.withdrawLocked_tells o.team
  have hscore (w : State) (hw : w.setup = s.setup) (hstandings : w.standings = s.standings) :
      (w.penalise o.team).standings = s.standings.apply (falseStartRequest s.setup o.team) := by
    rw [State.penalise_standings, hw, hstandings]
  have hreopen (w : State) (h : w.arbiter = s.arbiter) : (w.withdrawLocked o.team).arbiter.reopen = s.arbiter.reopen := by
    rw [State.withdrawLocked_reopen, h]
  unfold State.penalised
  split_ifs with hclaim hfirst
  · refine ⟨[s.penaltyReport o] ++ s.lockedOut o.team, List.perm_append_comm, ?_⟩
    have htells := (hpenalty v hvsetup (by simp [v, State.barred]) (by simp [v, State.barred])).trans (hout (v.penalise o.team) (by simp [v, State.barred]) (by simp [v, State.barred]))
    exact ⟨by simp [State.barred], by simp [State.barred, State.lockTeam, State.setLockLamp], by simp [State.barred],
      hreopen _ (by simp [State.barred]), by rw [← hscore v hvsetup (by simp [v, State.barred])]; simp [v], htells, by simp [State.barred],
      by simp [State.barred], by simp [State.barred], by simp [State.barred], by simp [State.barred]⟩
  · refine ⟨s.lockedOut o.team ++ [s.penaltyReport o], .refl _, ?_⟩
    have hwsetup : (v.withdrawLocked o.team).setup = s.setup :=
      (State.setup_of (by simp) (by simp)).trans hvsetup
    have htells := (hout v (by simp [v, State.barred]) (by simp [v, State.barred])).trans (hpenalty (v.withdrawLocked o.team) hwsetup (by simp [v, State.barred]) (by simp [v, State.barred]))
    exact ⟨by simp [State.barred], by simp [State.barred, State.lockTeam, State.setLockLamp], by simp [State.barred],
      hreopen v (by simp [v, State.barred]), hscore _ hwsetup (by simp [State.barred]), htells, by simp [State.barred],
      by simp [State.barred], by simp [State.barred], by simp [State.barred], by simp [State.barred]⟩
  · have hnone : s.arbiter.claimOf o.team = none := by simpa using hclaim
    refine ⟨[s.penaltyReport o], by simp [State.lockedOut, hnone], ?_⟩
    exact ⟨by simp [State.barred], by simp [State.barred, State.lockTeam, State.setLockLamp],
      by simp [State.barred, withoutTeam_of_claimOf_none hnone], by simp [State.barred],
      hscore _ hsetup (by simp [State.barred]),
      hpenalty _ hsetup (by simp [State.barred]) (by simp [State.barred]), by simp [State.barred], by simp [State.barred], by simp [State.barred], by simp [State.barred],
      by simp [State.barred]⟩

/-- A claim is judged a false start only where the checks before have passed it (R93). -/
theorem State.claimOutcome_of_false_start {s : State} {o : Offer}
    (h : s.claimOutcome o = .falseStartLocked ∨ s.claimOutcome o = .falseStartPenalised) :
    s.claimOutcome o = s.falseStartOutcome o.team := by
  cases hpaused : o.paused with
  | true => simp [State.claimOutcome_of_paused hpaused] at h
  | false =>
    cases hplay : s.inPlay o.team with
    | false => simp [State.claimOutcome_of_not_inPlay hpaused hplay] at h
    | true =>
      cases hfalse : s.isFalseStart o with
      | true => exact State.claimOutcome_of_false hpaused hplay hfalse
      | false =>
        simp only [State.claimOutcome, hpaused, hplay, hfalse, Bool.false_eq_true, if_false, Bool.not_true] at h
        repeat' split at h
        all_goals simp at h

theorem State.falseStartOutcome_free {s : State} {t : Nat}
    (h : s.falseStartOutcome t = .falseStartLocked ∨ s.falseStartOutcome t = .falseStartPenalised) : s.context.lockOf t = none := by
  cases hlock : s.context.lockOf t with
  | none => rfl
  | some reason =>
    simp only [State.falseStartOutcome, hlock, Option.isSome_some, if_true] at h
    split at h <;> simp at h

theorem State.isHead_iff (s : State) (t : Nat) : s.isHead t = true ↔ s.arbiter.queue.head?.map QueuedClaim.team = some t := by
  simp [State.isHead]

theorem State.offer_of_locked {s : State} {o : Offer} (h : s.claimOutcome o = .falseStartLocked) : s.offer o =
    if s.arbiter.queue.head?.map QueuedClaim.team = some o.team then
      ((s.barred o .falseStartLocked).withdrawLocked o.team).testGrant
    else (s.barred o .falseStartLocked).withdrawLocked o.team := by
  unfold State.offer
  rw [h]
  simp only [State.falseStartLock, ← s.isHead_iff]
  rfl

theorem State.offer_of_penalised {s : State} {o : Offer} (h : s.claimOutcome o = .falseStartPenalised) : s.offer o =
    if s.arbiter.queue.head?.map QueuedClaim.team = some o.team then (s.penalised o).testGrant else s.penalised o := by
  unfold State.offer
  rw [h]
  simp only [State.falseStartPenalise, ← s.isHead_iff]
  rfl

/-- Settles O39: the lock, the lamp, the withdrawal and the penalty, in the order they are told. -/
theorem falseStartsLockTheTeam : Obligations.FalseStartsLockTheTeam := by
  intro s o hteam hround hlocks hlamps
  refine ⟨?_, fun hlocked => ?_⟩
  · unfold State.falseStartOutcome
    cases s.setup.falseStart <;> cases s.context.lockOf o.team <;> rfl
  · have houtcome := State.claimOutcome_of_false_start hlocked
    have hfree : s.context.lockOf o.team = none := State.falseStartOutcome_free (houtcome ▸ hlocked)
    obtain ⟨u, told, hoffer, hperm, hstarted⟩ : ∃ u told,
        s.offer o = (if s.arbiter.queue.head?.map QueuedClaim.team = some o.team then u.testGrant else u) ∧
        told.Perm (s.lockedOut o.team ++ if s.claimOutcome o = .falseStartPenalised then [s.penaltyReport o] else []) ∧
        FalseStarted s u o (s.claimOutcome o) (if s.claimOutcome o = .falseStartPenalised then
          s.standings.apply (falseStartRequest s.setup o.team) else s.standings) told := by
      rcases hlocked with h | h
      · refine ⟨_, s.lockedOut o.team, State.offer_of_locked h, ?_, ?_⟩
        · simp [h]
        · rw [h]; exact s.falseStartLock_started o
      · obtain ⟨told, hperm, hstarted⟩ := s.penalised_started o
        refine ⟨_, told, State.offer_of_penalised h, ?_, ?_⟩
        · simpa [h] using hperm
        · rw [h]; exact hstarted
    have hcontext : u.context = { s.context with locks := s.context.locks.set (o.team - 1) (some .falseStart) } := by
      rw [State.context_of_map (f := fun c => c.lock o.team .falseStart) (by rw [hstarted.engine]) hround,
        Context.lock_of_free _ _ _ hfree]
    obtain ⟨hlow, hhigh⟩ := (isTeamNumber_iff _).mp hteam
    refine ⟨u, hoffer, ?_, fun t ht hne => ?_, ?_, ?_, ?_, hstarted.consoles, hstarted.pending, hstarted.queue, hstarted.reopen,
      hstarted.standings, ?_, ?_, ⟨told, ?_, ?_⟩, ?_, hstarted.list, hstarted.intake, hstarted.answers, hstarted.board⟩
    · have hindex : o.team - 1 < s.context.locks.length := by omega
      simp [hcontext, Context.lockOf, hindex]
    · rw [State.context_of_map (f := fun c => c.lock o.team .falseStart) (by rw [hstarted.engine]) hround,
        s.context.lockOf_lock_of_ne _ hteam ht hne]
    · have hindex : o.team - 1 < s.consoles.lockLamps.length := by omega
      simp [hstarted.consoles, hindex]
    · rw [hcontext]
    · rw [hstarted.engine]
    · rw [hstarted.engine]
    · rw [hcontext]
    · unfold State.lockedOut at hperm
      cases hc : s.arbiter.claimOf o.team <;> simp only [hc] at hperm <;> exact hperm
    · exact (s.tellRefusal_tells o _).trans hstarted.tells
    · rw [hcontext]

/-! ### The grant -/

theorem State.intakeHolds_iff (s : State) (d : Nat) : s.intakeHolds d = true ↔
    ∃ e ∈ s.intake.fifo, e.serial = s.engine.serial ∧ ∃ a, e.arrival = some a ∧ a ≤ d := by
  have harrived (x : Option Nat) : (match x with | some a => decide (a ≤ d) | none => false) = true ↔ ∃ a, x = some a ∧ a ≤ d := by
    cases x <;> simp
  simp only [State.intakeHolds, List.any_eq_true, Bool.and_eq_true, decide_eq_true_eq]
  refine exists_congr fun e => and_congr_right fun _ => and_congr_right fun _ => ?_
  cases e.arrival <;> simp

theorem State.testGrant_of_not {s : State} (h : s.grantHolds = false) : s.testGrant = s := by
  simp [State.testGrant, h]

theorem State.testGrant_of_cons {s : State} {c : QueuedClaim} {rest : List QueuedClaim} (hsettling : s.engine.state = .settling)
    (hqueue : s.arbiter.queue = c :: rest) (h : s.grantHolds = true) : s.testGrant = s.grant c rest := by
  simp only [State.testGrant, hsettling, h, hqueue]
  rfl

theorem State.testGrant_of_nil {s : State} (hsettling : s.engine.state = .settling) (hqueue : s.arbiter.queue = [])
    (h : s.grantHolds = true) : s.testGrant = s.close .timedOut := by
  simp only [State.testGrant, hsettling, h, hqueue]
  rfl

/-- The grant condition at a settle deadline (R73, R101). -/
theorem State.grantHolds_iff {s : State} {d : Nat} (h : s.deadline = some d) (hclock : s.engine.clock ≤ 1048575) :
    s.grantHolds = true ↔ (d ≤ s.engine.clock ∨ s.engine.clock = 1048575) ∧ s.intakeHolds d = false := by
  have hreached : s.reached d = true ↔ d ≤ s.engine.clock ∨ s.engine.clock = 1048575 := by
    simp only [State.reached, clockMax, decide_eq_true_eq]
    omega
  simp [State.grantHolds, h, hreached]

theorem State.grantHolds_eq_false {s : State} {d : Nat} (h : s.deadline = some d) (hclock : s.engine.clock ≤ 1048575)
    (hnot : (s.engine.clock < d ∧ s.engine.clock < 1048575) ∨ s.intakeHolds d = true) : s.grantHolds = false := by
  rw [← Bool.not_eq_true, State.grantHolds_iff h hclock]
  rintro ⟨hreached, hintake⟩
  rcases hnot with hearly | hholds
  · omega
  · rw [hholds] at hintake; cases hintake

section
variable {s : State} (hsettling : s.engine.state = .settling) (hkind : s.context.kind = .buzz) (hholder : s.context.holder = none)
include hsettling hkind hholder

theorem State.deadline_of_cons {c : QueuedClaim} {rest : List QueuedClaim} (hqueue : s.arbiter.queue = c :: rest) :
    s.deadline = some (c.stamp + s.setup.settleWindow.toNat) := by
  have hlive : s.live = true := State.live_of_state hsettling rfl
  simp [State.deadline, State.liveKind, hlive, hkind, hholder, hqueue]

theorem State.deadline_of_nil (hqueue : s.arbiter.queue = []) : s.deadline =
    if s.context.timeCalled then s.context.expiryStamp.map (· + s.setup.settleWindow.toNat) else none := by
  have hlive : s.live = true := State.live_of_state hsettling rfl
  simp [State.deadline, State.liveKind, hlive, hkind, hholder, hqueue]

end

theorem State.grant_context {s : State} (h : s.engine.round.isSome = true) (c : QueuedClaim) (rest : List QueuedClaim) :
    (s.grant c rest).context =
      { s.context with
        holder := some ⟨c.team, c.stamp, c.source, c.number⟩
        grantCount := s.context.grantCount + 1
        answerLeft := some (s.setup.answerWindow.toNat * 1000) } :=
  State.context_of_map (f := fun x => x.granted c (secondsMs s.setup.answerWindow)) (by rw [State.grant_engine]) h

theorem State.grant_consoles (s : State) (c : QueuedClaim) (rest : List QueuedClaim) : (s.grant c rest).consoles =
    { s.consoles with
      floorLamps := s.consoles.floorLamps.set (c.team - 1) (if s.setup.answerWindow.toNat ≤ 5 then .blink else .on) } := rfl

/-- Settles O40: the two rows are the test of the grant condition, which grants, closes or does nothing. -/
theorem theFloorIsGrantedAtTheDeadline : Obligations.TheFloorIsGrantedAtTheDeadline := by
  have hhold (s : State) : exec .roundClockHold s = .next (if s.engine.clock = 1048575 then s.testGrant else s) := rfl
  refine ⟨fun s => rfl, State.intakeHolds_iff, fun s hnot => ⟨?_, ?_⟩, fun s hclock => ?_, fun s i hi hsettling hkind hholder hround hlamps
    hlen hclock => ?_⟩
  · exact congrArg Host.Outcome.next (State.testGrant_of_ne_settling hnot)
  · rw [hhold, State.testGrant_of_ne_settling hnot, ite_self]
  · rw [hhold, if_neg hclock]
  · have hexec : exec i s = .next s.testGrant := by
      rcases hi with rfl | ⟨rfl, hmax⟩
      · rfl
      · rw [hhold, if_pos hmax]
    rw [hexec]
    refine ⟨fun c rest d hqueue hd hteam => ?_, fun hqueue => ⟨fun hcalled => ?_, fun e d hcalled he hd => ?_⟩⟩
    · have hdeadline : s.deadline = some d := hd ▸ State.deadline_of_cons hsettling hkind hholder hqueue
      refine ⟨fun hreached hintake => ?_, fun hnot => by rw [State.testGrant_of_not (State.grantHolds_eq_false hdeadline hclock hnot)]⟩
      have hgrant := State.testGrant_of_cons hsettling hqueue ((State.grantHolds_iff hdeadline hclock).mpr ⟨hreached, hintake⟩)
      obtain ⟨hlow, hhigh⟩ := (isTeamNumber_iff _).mp hteam
      have hindex : c.team - 1 < s.consoles.floorLamps.length := by omega
      refine ⟨s.grant c rest, by rw [hgrant], rfl, State.grant_context hround c rest, rfl, rfl, rfl, s.grant_consoles c rest, rfl, rfl, rfl,
        ?_, rfl, rfl, rfl, rfl, rfl, rfl⟩
      simp [State.grant_consoles, hindex]
    · have hnone : s.deadline = none := by simp [State.deadline_of_nil hsettling hkind hholder hqueue, hcalled]
      rw [State.testGrant_of_not (by simp [State.grantHolds, hnone])]
    · have hdeadline : s.deadline = some d := by simp [State.deadline_of_nil hsettling hkind hholder hqueue, hcalled, he, hd]
      refine ⟨fun hreached hintake => ?_, fun hnot => by rw [State.testGrant_of_not (State.grantHolds_eq_false hdeadline hclock hnot)]⟩
      have hclose := State.testGrant_of_nil hsettling hqueue ((State.grantHolds_iff hdeadline hclock).mpr ⟨hreached, hintake⟩)
      obtain ⟨_, hanswers, hstandings, hboard⟩ := s.close_untouched .timedOut
      have hcloses := s.close_closes .timedOut hlen
      exact ⟨s.close .timedOut, by rw [hclose], hcloses.result, s.close_live _, hstandings, hanswers, hboard, hcloses, s.close_tells _ hlen⟩

/-! ### Time called -/

theorem State.withdrawLate_tells (s : State) : Tells s s.withdrawLate
    ((s.arbiter.queue.filter fun c => s.isLate c.stamp).map fun c => ⟨some s.engine.serial, c.withdrawn .late⟩) := by
  have h := (s.setQueue (s.arbiter.queue.filter fun c => !s.isLate c.stamp)).raiseAll_tells
    ((s.arbiter.queue.filter fun c => s.isLate c.stamp).map fun c => c.withdrawn .late)
  rw [List.map_map] at h
  exact h

/-- The state in which time has been called and told, before the late claims go (R37, R103). -/
def State.timeOver (s : State) : State :=
  ((s.mapContext fun c => { c with timeCalled := true, expiryStamp := some s.engine.clock, lastSecond := some 0 }).raise
    (.timerExpired .round (some s.engine.clock) none)).enter .settling

theorem State.callTime_eq (s : State) : s.callTime = s.timeOver.withdrawLate.testGrant := rfl

theorem State.timeOver_context {s : State} (h : s.engine.round.isSome = true) : s.timeOver.context =
    { s.context with timeCalled := true, expiryStamp := some s.engine.clock, lastSecond := some 0 } :=
  State.context_of_map (s := s)
    (f := fun c => { c with timeCalled := true, expiryStamp := some s.engine.clock, lastSecond := some 0 }) rfl h

theorem State.timeOver_isLate {s : State} (h : s.engine.round.isSome = true) (n : Nat) :
    s.timeOver.isLate n = decide (s.engine.clock ≤ n) := by
  simp [State.isLate, State.timeOver_context h]

theorem State.exec_roundTimerExpiry_of_not {s : State}
    (h : s.engine.state ∉ [.opened, .settling] ∨ s.context.roundLeft ≠ some 0 ∨
      (s.engine.state = .settling ∧ s.context.timeCalled = true)) : exec .roundTimerExpiry s = .next s := by
  have hnot : (s.roundTimerCounts && decide (s.context.roundLeft = some 0)) = false := by
    rcases h with h | h | ⟨hsettling, hcalled⟩
    · rw [State.roundTimerCounts_of_not h, Bool.false_and]
    · simp [h]
    · simp [State.roundTimerCounts, hsettling, hcalled]
  simp [exec, execRoundTimerExpiry, hnot]

/-- Settles O41: the call of time, the late withdrawals and the grant test, and where the row has no effect. -/
theorem timeIsCalled : Obligations.TimeIsCalled := by
  intro s hkind hround
  refine ⟨fun hstate hleft => ?_, State.exec_roundTimerExpiry_of_not⟩
  have hcounts : s.roundTimerCounts = true := by
    rcases hstate with h | ⟨h, hcalled⟩
    · simp [State.roundTimerCounts, h]
    · simp [State.roundTimerCounts, h, hcalled]
  have hcontext := State.timeOver_context hround
  have hframe : s.timeOver.withdrawLate.engine = s.timeOver.engine := by simp
  have hfilter : (fun c : QueuedClaim => !s.timeOver.isLate c.stamp) = fun c => decide (c.stamp < s.engine.clock) := by
    funext c
    rw [State.timeOver_isLate hround, ← decide_not]
    simp
  refine ⟨s.timeOver.withdrawLate, ?_, ?_, ?_, ?_, ?_, ?_, ?_, ?_, ?_, ?_, ?_, ?_, ?_, ?_, ?_, ?_, ?_, ?_⟩
  · simp [exec, execRoundTimerExpiry, hcounts, hleft, State.roundTimeUp, hkind, State.callTime_eq]
  · rw [hframe]; rfl
  · rw [State.context, hframe]; exact hcontext
  · rw [hframe]; rfl
  · simp [State.timeOver]
  · simp [State.timeOver]
  · rw [State.withdrawLate_arbiter, hfilter]; rfl
  · rw [State.withdrawLate_arbiter]; rfl
  · rw [hframe]; rfl
  · rw [hframe]; rfl
  · rw [hframe]; rfl
  · simp [State.timeOver]
  · simp [State.timeOver]
  · simp [State.timeOver]
  · simp [State.timeOver]
  · simp [State.timeOver]
  · simp [State.timeOver]
  · have htold : Tells s s.timeOver [⟨some s.engine.serial, .timerExpired .round (some s.engine.clock) none⟩] := rfl
    have hwithdrawn := s.timeOver.withdrawLate_tells
    simp only [State.timeOver_isLate hround] at hwithdrawn
    exact htold.trans hwithdrawn

end Sys2Proof.Machine
end

section
/-! The verdicts: RIGHT closes the round WON, WRONG and TIMEOUT lock the team and close or rebound (R35, R38, R39, R105 to
R109). -/

namespace Sys2Proof.Machine

/-! ### A RIGHT verdict -/

theorem Board.panelAt_setPanelAt_self (b : Board) {a : Nat} (h : a < b.panels.length) (x : PanelRecord) :
    (b.setPanelAt a x).panelAt a = x := by
  simp [Board.panelAt, Board.setPanelAt, h]

theorem Board.panelAt_setPanelAt_of_ne (b : Board) {a c : Nat} (h : c ≠ a) (x : PanelRecord) :
    (b.setPanelAt a x).panelAt c = b.panelAt c := by
  simp [Board.panelAt, Board.setPanelAt, List.getD_eq_getElem?_getD, List.getElem?_set_ne h.symm]

/-- The boards after the blink of a winner's panel has begun, unless it is held (R172). -/
theorem State.beginBlink_board (s : State) (n : Nat) : (s.beginBlink n).board =
    if (s.board.panelAt n).held then s.board
    else s.board.setPanelAt n { s.board.panelAt n with blinkLeft := 3000, blinkOpen := true } := by
  unfold State.beginBlink
  split <;> rfl

theorem State.closeWon_board (s : State) (n : Nat) : (s.closeWon n).board =
    if (s.board.panelAt n).held then s.board
    else s.board.setPanelAt n { s.board.panelAt n with blinkLeft := 3000, blinkOpen := true } := by
  have h : ((s.closeRound .won (some n)).followFrom s.context.slot).board = s.board := by simp
  rw [State.closeWon, State.beginBlink_board, h]

theorem State.closeWon_live (s : State) (n : Nat) : (s.closeWon n).live = false := by
  rw [State.live, State.closeWon_engine]
  rcases (s.closeRound .won (some n)).followFrom_engine s.context.slot with h | h <;> rw [h] <;> rfl

theorem Closing.closeWon_closes {s w : State} (h : Closing s w) (n : Nat) (hlen : s.list.slots.length = 128) :
    Closes s (w.closeWon n) .won (some n) :=
  h.closes (w.closeWon_closes n (by rw [h.list, hlen]))

theorem Closing.closeWon_tells {s w : State} (h : Closing s w) (n : Nat) (hlen : s.list.slots.length = 128) :
    Tells w (w.closeWon n) [Machine.closeReport s .won (some n), Machine.walkReport s] := by
  rw [← h.closeReport, ← h.walkReport]
  exact w.closeWon_tells n (by rw [h.list, hlen])

/-- The state in which a RIGHT verdict has been told and its award made, before the close (R105). -/
def State.judged (s : State) (h : Holder) : State :=
  ((s.clearFloor h.team).raise (.verdictGiven h.team .right h.stamp s.context.wrongCount .closeWon)).scoreChange
    (rightRequest s.setup s.standings h.team h.stamp (s.context.openTime.getD 0))

theorem State.judgeRight_eq (s : State) (h : Holder) : s.judgeRight h = (s.judged h).closeWon h.team := rfl

theorem Closing.judged (s : State) (h : Holder) : Closing s (s.judged h) where
  context := by
    unfold State.context State.judged
    cases hr : s.engine.round with
    | none => simp [hr]
    | some c => simp [hr, Context.closed]
  clock := by simp [State.judged]
  serial := by simp [State.judged]
  tieStart := by simp [State.judged]
  list := by simp [State.judged]
  queue := by simp [State.judged]
  lamps := rfl
  intake := by simp [State.judged]
  free := by simp [State.judged]
  pending := by simp [State.judged]

theorem State.judged_tells (s : State) (h : Holder) : Tells s (s.judged h)
    [⟨some s.engine.serial, .verdictGiven h.team .right h.stamp s.context.wrongCount .closeWon⟩,
      scoreReport (some s.engine.serial) (rightRequest s.setup s.standings h.team h.stamp (s.context.openTime.getD 0)) s.standings] := by
  have htold : Tells s ((s.clearFloor h.team).raise (.verdictGiven h.team .right h.stamp s.context.wrongCount .closeWon))
      [⟨some s.engine.serial, .verdictGiven h.team .right h.stamp s.context.wrongCount .closeWon⟩] := rfl
  exact htold.trans (State.scoreChange_tells _ _)

theorem carryJudge_of_floor {v : Byte} {s : State} {h : Holder} (hfloor : s.engine.state = .floor) (hv : v.toNat ≤ 1)
    (hholder : s.context.holder = some h) :
    carryJudge v s = (s.judgeBy h (v = 0)).done (s.judgeBy h (v = 0)).engineReply := by
  simp [carryJudge, hfloor, Nat.not_lt.mpr hv, hholder]

/-- Settles O42: the verdict, the award and the close WON, with the winner's blink. -/
theorem rightVerdictsWinTheRound : Obligations.RightVerdictsWinTheRound := by
  intro h s hw hfloor hholder hround hlen hpanels hteam
  obtain ⟨hlow, hhigh⟩ := (isTeamNumber_iff _).mp hteam
  have hclosing := Closing.judged s h
  have hcloses := hclosing.closeWon_closes h.team hlen
  rw [← State.judgeRight_eq] at hcloses
  have hboard : (s.judgeRight h).board = if (s.board.panelAt h.team).held then s.board
      else s.board.setPanelAt h.team { s.board.panelAt h.team with blinkLeft := 3000, blinkOpen := true } := by
    rw [State.judgeRight_eq, State.closeWon_board, show (s.judged h).board = s.board by simp [State.judged]]
  obtain ⟨hslots, _, _, _, hremembered, hclock, _, _, hcontext, harbiter, hconsoles, hintake, _, _⟩ := id hcloses
  refine ⟨_, s.judgeRight h, _, _, rfl, replies_done rfl hw ?_, State.closeWon_live _ _, rfl, rfl, ?_, ?_, hcloses, ?_, hcloses.result, ?_,
    ?_, ?_, harbiter, hclock, ?_, ?_, fun a ha => ?_, hintake, ?_⟩
  · rw [carryJudge_of_floor hfloor (by decide) hholder, ← State.engineReply_of_none hremembered]
    rfl
  · simp [State.judgeRight_eq, State.judged, rightRequest_eq]
  · exact (s.judged_tells h).trans (hclosing.closeWon_tells h.team hlen)
  · rw [hboard]; split <;> rfl
  · rw [hslots, if_pos rfl]
  · rw [hcontext]
  · rw [hcontext]
  · rw [hconsoles]
  · rw [hboard]
    split
    · rfl
    · rw [Board.panelAt_setPanelAt_self _ (by omega)]
  · rw [hboard]
    split
    · rfl
    · rw [Board.panelAt_setPanelAt_of_ne _ ha]
  · simp [State.judgeRight_eq, State.judged]

/-! ### A WRONG or TIMEOUT verdict -/

theorem Context.lockOf_lock_self (c : Context) {n : Nat} (reason : LockReason) (hn : isTeamNumber n = true)
    (hlen : c.locks.length = 24) : (c.lock n reason).lockOf n = (c.lockOf n).or (some reason) := by
  obtain ⟨hlow, hhigh⟩ := (isTeamNumber_iff n).mp hn
  have hindex : n - 1 < c.locks.length := by omega
  cases hlock : c.lockOf n with
  | none => rw [Context.lock_of_free _ _ _ hlock]; simp [Context.lockOf, hindex]
  | some r => rw [Context.lock_of_locked _ _ _ (by simp [hlock]), hlock]; rfl

theorem Context.lock_eq (c : Context) (n : Nat) (reason : LockReason) :
    c.lock n reason = { c with locks := (c.lock n reason).locks } := by
  unfold Context.lock
  split <;> rfl

theorem State.lockWrong_context {s : State} (hround : s.engine.round.isSome = true) (h : Holder) (v : Verdict) :
    (s.lockWrong h v).context =
      Context.lock { s.context with holder := none, answerLeft := none, wrongCount := s.context.wrongCount + 1 } h.team
        (lockReasonOf v) := by
  obtain ⟨c, hc⟩ := Option.isSome_iff_exists.mp hround
  simp [State.lockWrong, State.context, hc]

/-- The state in which a WRONG or TIMEOUT verdict has been told and its penalty made (R106). -/
def State.wronged (s : State) (h : Holder) (v : Verdict) : State :=
  if countsWrong s.setup v then
    ((s.lockWrong h v).raise
      (.verdictGiven h.team v h.stamp (s.lockWrong h v).context.wrongCount (s.lockWrong h v).follows)).scoreChange
      (wrongRequest s.setup h.team v)
  else
    (s.lockWrong h v).raise (.verdictGiven h.team v h.stamp (s.lockWrong h v).context.wrongCount (s.lockWrong h v).follows)

theorem State.judgeWrong_eq (s : State) (h : Holder) (v : Verdict) :
    s.judgeWrong h v = (s.wronged h v).afterWrong (s.lockWrong h v).follows := rfl

theorem State.wronged_frame (s : State) (h : Holder) (v : Verdict) :
    (s.wronged h v).list = s.list ∧ (s.wronged h v).engine = (s.lockWrong h v).engine ∧ (s.wronged h v).arbiter = s.arbiter ∧
      (s.wronged h v).consoles = (s.lockWrong h v).consoles ∧ (s.wronged h v).intake = s.intake ∧
      (s.wronged h v).answers = s.answers ∧ (s.wronged h v).board = s.board ∧ (s.wronged h v).free = s.free ∧
      (s.wronged h v).pending = s.pending := by
  unfold State.wronged
  split <;> simp [State.lockWrong]

theorem State.wronged_context (s : State) (h : Holder) (v : Verdict) : (s.wronged h v).context = (s.lockWrong h v).context := by
  obtain ⟨_, hengine, _⟩ := s.wronged_frame h v
  rw [State.context, hengine]
  rfl

theorem countsWrong_iff (d : Descriptor) (v : Verdict) : countsWrong d v = true ↔ ¬(v = .timeout ∧ d.timeoutWrong = false) := by
  cases v <;> cases h : d.timeoutWrong <;> simp [countsWrong, h]

theorem State.lockWrong_setup (s : State) (h : Holder) (v : Verdict) : (s.lockWrong h v).setup = s.setup := by
  have hslot : (s.lockWrong h v).context.slot = s.context.slot := by
    unfold State.context
    cases hr : s.engine.round <;> simp [State.lockWrong, hr, Context.lock_slot]
  unfold State.setup State.slotAt
  rw [hslot]
  simp [State.lockWrong]

theorem State.closesNow_iff (s : State) : s.closesNow = true ↔ s.setup.wrongLimit.toNat ≤ s.context.wrongCount ∨
    ∀ x, isTeamNumber x = true → s.inPlay x = true → s.context.lockOf x ≠ none := by
  have hall : s.allLocked = true ↔ ∀ x, isTeamNumber x = true → s.inPlay x = true → s.context.lockOf x ≠ none := by
    simp only [State.allLocked, List.all_eq_true, mem_teamNumbers_iff, isTeamNumber_iff, Bool.or_eq_true, Bool.not_eq_true',
      ← Option.isSome_iff_ne_none]
    refine forall_congr' fun x => imp_congr_right fun _ => ?_
    cases s.inPlay x <;> simp
  simp [State.closesNow, hall]

theorem State.closesOutright_iff (s : State) (h : Holder) (v : Verdict) :
    ClosesOutright s (s.wronged h v) ↔ (s.lockWrong h v).closesNow = true := by
  have hplay : (s.lockWrong h v).inPlay = s.inPlay := by
    funext t
    unfold State.inPlay
    rw [s.lockWrong_setup]
    simp [State.lockWrong]
  rw [State.closesNow_iff, hplay, s.lockWrong_setup, ← s.wronged_context]
  rfl

theorem State.wronged_standings (s : State) (h : Holder) (v : Verdict) : (s.wronged h v).standings =
    if v = .timeout ∧ s.setup.timeoutWrong = false then s.standings else s.standings.apply (wrongVerdictRequest s h v) := by
  unfold State.wronged
  by_cases hcounts : v = .timeout ∧ s.setup.timeoutWrong = false
  · rw [if_neg (by rw [countsWrong_iff]; exact not_not.mpr hcounts), if_pos hcounts]
    simp [State.lockWrong]
  · rw [if_pos ((countsWrong_iff _ _).mpr hcounts), if_neg hcounts]
    simp [State.lockWrong]
    rfl

theorem State.wronged_tells {s : State} (hround : s.engine.round.isSome = true) (h : Holder) (v : Verdict) : Tells s (s.wronged h v)
    (⟨some s.engine.serial, .verdictGiven h.team v h.stamp (s.context.wrongCount + 1) (s.lockWrong h v).follows⟩ ::
      if v = .timeout ∧ s.setup.timeoutWrong = false then []
      else [scoreReport (some s.engine.serial) (wrongVerdictRequest s h v) s.standings]) := by
  have hcount : (s.lockWrong h v).context.wrongCount = s.context.wrongCount + 1 := by
    rw [State.lockWrong_context hround, Context.lock_eq]
  have htold : Tells s ((s.lockWrong h v).raise
      (.verdictGiven h.team v h.stamp (s.lockWrong h v).context.wrongCount (s.lockWrong h v).follows))
      [⟨some s.engine.serial, .verdictGiven h.team v h.stamp (s.context.wrongCount + 1) (s.lockWrong h v).follows⟩] := by
    rw [hcount]; rfl
  unfold State.wronged
  by_cases hcounts : v = .timeout ∧ s.setup.timeoutWrong = false
  · rw [if_neg (by rw [countsWrong_iff]; exact not_not.mpr hcounts), if_pos hcounts]
    exact htold
  · rw [if_pos ((countsWrong_iff _ _).mpr hcounts), if_neg hcounts]
    exact htold.trans (State.scoreChange_tells _ (wrongRequest s.setup h.team v))

theorem State.follows_of_closing {s : State} (h : s.closesNow = true) : s.follows = .closeNoWinner := if_pos h

theorem State.follows_of_rebound {s : State} (h : ¬s.closesNow = true) :
    s.follows = if s.setup.rebound = .queue then .reboundQueue else .reboundReopen := by
  rw [State.follows, if_neg h]
  cases s.setup.rebound <;> rfl

/-- A WRONG or TIMEOUT verdict up to what follows it (R106). -/
theorem State.wronged_verdict {s : State} (hfloor : s.engine.state = .floor) (hround : s.engine.round.isSome = true) {h : Holder} (v : Verdict)
    (hteam : isTeamNumber h.team = true) (hlocks : s.context.locks.length = 24) (hlockLamps : s.consoles.lockLamps.length = 24)
    (hfloorLamps : s.consoles.floorLamps.length = 24) : WrongVerdict s (s.wronged h v) h v := by
  obtain ⟨hlist, hengine, harbiter, hconsoles, hintake, hanswers, hboard, hfree, hpending⟩ := s.wronged_frame h v
  obtain ⟨hlow, hhigh⟩ := (isTeamNumber_iff _).mp hteam
  have hcontext : (s.wronged h v).context = _ := (s.wronged_context h v).trans (State.lockWrong_context hround h v)
  have hlamps : (s.wronged h v).consoles =
      { s.consoles with
        floorLamps := s.consoles.floorLamps.set (h.team - 1) .off
        lockLamps := s.consoles.lockLamps.set (h.team - 1) .on } := by
    rw [hconsoles]; rfl
  have hlockIndex : h.team - 1 < s.consoles.lockLamps.length := by omega
  have hfloorIndex : h.team - 1 < s.consoles.floorLamps.length := by omega
  have hwhole : (s.wronged h v).context =
      { s.context with
        holder := none, answerLeft := none, wrongCount := s.context.wrongCount + 1, locks := (s.wronged h v).context.locks } := by
    rw [hcontext, Context.lock_eq]
  refine ⟨?_, ?_, ?_, ?_, ?_, fun t ht hne => ?_, hwhole, ?_, ?_, ?_, hlamps, s.wronged_standings h v,
    ⟨(s.lockWrong h v).follows, fun hclose => ?_, fun hclose => ?_, State.wronged_tells hround h v⟩, harbiter, hlist, ?_, ?_, ?_, hintake, hanswers,
    hboard, hfree, hpending⟩
  · rw [hengine]; simpa [State.lockWrong] using hfloor
  · rw [hwhole]
  · rw [hwhole]
  · rw [hwhole]
  · rw [hcontext]
    exact Context.lockOf_lock_self _ (lockReasonOf v) hteam (by exact hlocks)
  · rw [hcontext, Context.lockOf_lock_of_ne _ _ hteam ht hne]
    rfl
  · rw [hengine]; simp [State.lockWrong]
  · simp [hlamps, hlockIndex]
  · simp [hlamps, hfloorIndex]
  · exact State.follows_of_closing ((s.closesOutright_iff h v).mp hclose)
  · rw [State.follows_of_rebound (fun hc => hclose ((s.closesOutright_iff h v).mpr hc)), s.lockWrong_setup]
  · rw [hengine]; simp [State.lockWrong]
  · rw [hengine]; simp [State.lockWrong]
  · rw [hengine]; simp [State.lockWrong]

theorem State.wronged_clock (s : State) (h : Holder) (v : Verdict) : (s.wronged h v).engine.clock = s.engine.clock := by
  obtain ⟨_, hengine, _⟩ := s.wronged_frame h v
  rw [hengine]
  simp [State.lockWrong]

theorem State.wronged_remembered (s : State) (h : Holder) (v : Verdict) : (s.wronged h v).engine.remembered = s.engine.remembered := by
  obtain ⟨_, hengine, _⟩ := s.wronged_frame h v
  rw [hengine]
  simp [State.lockWrong]

/-- The close or the rebound that follows a verdict (R107 to R109). -/
theorem State.judgeWrong_rebounds (s : State) (h : Holder) (v : Verdict) : Rebounds s (s.wronged h v) (s.judgeWrong h v) := by
  rw [State.judgeWrong_eq]
  refine ⟨fun hclose => ?_, fun hclose hmode => ⟨fun hqueue => ?_, fun hqueue hcalled => ?_, fun hqueue hcalled => ?_⟩, fun hclose hmode => ?_⟩
  · rw [State.follows_of_closing ((s.closesOutright_iff h v).mp hclose)]
    rfl
  all_goals
    rw [State.follows_of_rebound (fun hc => hclose ((s.closesOutright_iff h v).mpr hc)), s.lockWrong_setup, hmode]
  · show (s.wronged h v).reboundQueue = _
    rw [State.reboundQueue, if_pos hqueue]
    rfl
  · show (s.wronged h v).reboundQueue = _
    rw [State.reboundQueue, if_neg (not_not.mpr hqueue), if_pos hcalled]
  · show (s.wronged h v).reboundQueue = _
    rw [State.reboundQueue, if_neg (not_not.mpr hqueue), if_neg (by simp [hcalled])]
    rfl
  · refine ⟨((s.wronged h v).setArbiter ⟨[], some (s.wronged h v).engine.clock⟩).raiseAll
      ((s.wronged h v).arbiter.queue.map fun c => c.withdrawn .reopen), ?_, by simp, by simp, by simp, by simp, by simp, by simp, by simp,
      by simp, by simp, ?_, fun hcalled => ?_, fun hcalled => ?_⟩
    · simp [s.wronged_clock]
    · have htells := ((s.wronged h v).setArbiter ⟨[], some (s.wronged h v).engine.clock⟩).raiseAll_tells
        ((s.wronged h v).arbiter.queue.map fun c => c.withdrawn .reopen)
      rw [List.map_map] at htells
      exact htells
    · show (s.wronged h v).reboundReopen = _
      rw [State.reboundReopen, if_pos hcalled]
    · show (s.wronged h v).reboundReopen = _
      rw [State.reboundReopen, if_neg (by simp [hcalled])]
      rfl

theorem State.afterWrong_remembered {s : State} (f : Follows) (h : s.engine.remembered = none) :
    (s.afterWrong f).engine.remembered = none := by
  cases f with
  | closeWon => exact h
  | closeNoWinner => exact State.close_remembered _ _
  | reboundQueue =>
    simp only [State.afterWrong, State.reboundQueue]
    split_ifs
    · exact State.testGrant_remembered (s := s.enter .settling) h
    · exact State.close_remembered _ _
    · exact h
  | reboundReopen =>
    simp only [State.afterWrong, State.reboundReopen]
    split_ifs
    · exact State.close_remembered _ _
    · simpa using h

theorem exec_answerTimerExpiry_of_holder {s : State} {h : Holder} (hfloor : s.engine.state = .floor) (hholder : s.context.holder = some h) :
    exec .answerTimerExpiry s = .next (if s.context.answerLeft = some 0 then s.answerTimeUp h else s) := by
  simp [exec, execAnswerTimerExpiry, hholder, hfloor]

/-- Settles O43: the verdict by command and by timer, and the close or the rebound. -/
theorem wrongVerdictsLockAndRebound : Obligations.WrongVerdictsLockAndRebound := by
  intro h s hfloor hnone hholder hteam hround hlocks hlockLamps hfloorLamps
  refine ⟨fun hw => ⟨s.wronged h .wrong, s.judgeWrong h .wrong, State.wronged_verdict hfloor hround .wrong hteam hlocks hlockLamps hfloorLamps,
    s.judgeWrong_rebounds h .wrong, replies_done rfl hw ?_⟩, fun hleft => ?_, fun hleft => ?_⟩
  · have hremembered : (s.judgeWrong h .wrong).engine.remembered = none := by
      rw [State.judgeWrong_eq]
      exact State.afterWrong_remembered _ ((s.wronged_remembered h .wrong).trans hnone)
    rw [carryJudge_of_floor hfloor (by decide) hholder, ← State.engineReply_of_none hremembered]
    rfl
  · refine ⟨(s.raise (.timerExpired .answer none (some h.team))).wronged h .timeout, s.answerTimeUp h,
      State.wronged_verdict (s := s.raise (.timerExpired .answer none (some h.team))) hfloor hround .timeout hteam hlocks hlockLamps hfloorLamps,
      (s.raise (.timerExpired .answer none (some h.team))).judgeWrong_rebounds h .timeout, ?_⟩
    rw [exec_answerTimerExpiry_of_holder hfloor hholder, if_pos hleft]
  · rw [exec_answerTimerExpiry_of_holder hfloor hholder, if_neg hleft]

end Sys2Proof.Machine
end

section
/-! The console lines: the rows of a line, the lamp blink timer, and the line and receiver commands (R52 to R65, R71). -/

namespace Sys2Proof.Machine

/-! ### The rows of a line -/

theorem LineRecord.heldAt_iff (r : LineRecord) (x : LineLevel) : r.heldAt x = true ↔ r.level = x ∧ r.filter + 1 ≤ r.runLength := by
  simp [LineRecord.heldAt, LineRecord.hasHeld]

theorem LineRecord.heldAt_of_short {r : LineRecord} (h : r.runLength ≤ r.filter) (x : LineLevel) : r.heldAt x = false := by
  rw [← Bool.not_eq_true, LineRecord.heldAt_iff]
  omega

theorem LineRecord.currentRun_eq (r : LineRecord) : r.currentRun = r.newRun.or r.runStart := by
  unfold LineRecord.currentRun
  cases r.newRun <;> rfl

theorem State.offerPress_of_no_round {s : State} (n : Nat) (run : RunStart) (h : s.live = false ∨ s.context.kind ≠ .buzz) :
    s.offerPress n run = s := by
  have hnot : s.liveKind .buzz = false := by rcases h with h | h <;> simp [State.liveKind, h]
  simp [State.offerPress, hnot]

theorem State.offerPress_of_old_run {s : State} (n : Nat) {run : RunStart} (h : run.live = false ∨ run.serial ≠ s.engine.serial) :
    s.offerPress n run = s := by
  unfold State.offerPress
  split
  · rfl
  · rcases h with h | h <;> simp [h]

theorem State.offerPress_of_run {s : State} (n : Nat) {run : RunStart} (hlive : s.live = true) (hkind : s.context.kind = .buzz)
    (hrun : run.live = true) (hserial : run.serial = s.engine.serial) :
    s.offerPress n run = s.offer ⟨n, run.clock, .console n, none, s.engine.state = .paused || run.paused⟩ := by
  simp [State.offerPress, State.liveKind, hlive, hkind, hrun, hserial, State.pausedMark]

theorem State.acceptPress_of_none {s : State} {n : Nat} (h : (s.lineAt n).currentRun = none) :
    s.acceptPress n = s.setLineAt n { s.lineAt n with state := .pressed, count := 0 } := by
  simp only [State.acceptPress, h]

theorem State.acceptPress_of_some {s : State} {n : Nat} {run : RunStart} (h : (s.lineAt n).currentRun = some run) :
    s.acceptPress n = (s.setLineAt n { s.lineAt n with state := .pressed, count := 0 }).offerPress n run := by
  simp only [State.acceptPress, h]

theorem exec_linePressAccepted {s : State} {n : Nat} (hn : isTeamNumber n = true) (hready : (s.lineAt n).state = .ready)
    (hheld : (s.lineAt n).heldAt .pressed = true) : exec (.linePressAccepted n) s = .next (s.acceptPress n) := by
  simp [exec, execLinePressAccepted, hn, hready, hheld]

/-- Settles O44: each row of a line on the run it shows, and the lamp blink timer. -/
theorem linesFollowTheirRuns : Obligations.LinesFollowTheirRuns := by
  refine ⟨?_, fun s => ⟨fun hzero => ?_, fun hleft => ?_⟩⟩
  · rintro n s r hn rfl
    refine ⟨fun x hx => ?_, fun hstate hlevel hheld => ?_, fun hstate hlevel hheld => ⟨_, rfl, fun hround => ?_, fun x hx =>
      ⟨fun hold => ?_, fun hlive hkind hrun hserial => ?_⟩⟩, fun hstate hlevel hheld => ?_, fun hstate hcount => ?_,
      fun hstate hlevel hheld => ?_, fun hshort => ?_⟩
    · simp [exec, execLineRunStart, hn, hx]
    · have := (LineRecord.heldAt_iff _ _).mpr ⟨hlevel, hheld⟩
      simp [exec, execLineReady, hn, hstate, this]
    · rw [exec_linePressAccepted hn hstate ((LineRecord.heldAt_iff _ _).mpr ⟨hlevel, hheld⟩)]
      cases hrun : (s.lineAt n).currentRun with
      | none => rw [State.acceptPress_of_none hrun]
      | some run =>
        rw [State.acceptPress_of_some hrun]
        exact congrArg Host.Outcome.next (State.offerPress_of_no_round n run hround)
    · rw [exec_linePressAccepted hn hstate ((LineRecord.heldAt_iff _ _).mpr ⟨hlevel, hheld⟩),
        State.acceptPress_of_some ((LineRecord.currentRun_eq _).trans hx)]
      exact congrArg Host.Outcome.next (State.offerPress_of_old_run n hold)
    · rw [exec_linePressAccepted hn hstate ((LineRecord.heldAt_iff _ _).mpr ⟨hlevel, hheld⟩),
        State.acceptPress_of_some ((LineRecord.currentRun_eq _).trans hx)]
      exact congrArg Host.Outcome.next (State.offerPress_of_run n hlive hkind hrun hserial)
    · have := (LineRecord.heldAt_iff _ _).mpr ⟨hlevel, hheld⟩
      simp [exec, execLineReleaseAccepted, hn, hstate, this]
    · have hrow : ((s.lineAt n).state = .pressed || (s.lineAt n).state = .waitRelease) = true := by simpa using hstate
      simp [exec, execStuck, hn, hrow, stuckAt, hcount]
    · have := (LineRecord.heldAt_iff _ _).mpr ⟨hlevel, hheld⟩
      simp [exec, execCleared, hn, hstate, this]
    · have := fun x => LineRecord.heldAt_of_short hshort x
      simp [exec, execLineReady, execLinePressAccepted, execLineReleaseAccepted, execCleared, this]
  · have hflip : s.consoles.phase.flip = if s.consoles.phase = .lit then .dark else .lit := by cases s.consoles.phase <;> rfl
    simp only [exec, execLampBlinkTimerExpiry, hzero, hflip]
    rfl
  · simp [exec, execLampBlinkTimerExpiry, hleft]

/-! ### The codes that the line and receiver commands read -/

theorem teamOf_of_range {b : Byte} (hzero : b ≠ 0) (hhigh : b.toNat ≤ 24) : teamOf b = some b.toNat := by
  have hpos : 1 ≤ b.toNat := by bv_omega
  exact if_pos ((isTeamNumber_iff _).mpr ⟨hpos, hhigh⟩)

theorem teamOf_of_out {b : Byte} (h : b = 0 ∨ 24 < b.toNat) : teamOf b = none := by
  refine if_neg fun ht => ?_
  obtain ⟨hlow, hhigh⟩ := (isTeamNumber_iff _).mp ht
  rcases h with rfl | h
  · simp at hlow
  · omega

theorem boolOfCode_of_high {b : Byte} (h : 1 < b.toNat) : boolOfCode b = none := by
  rw [← Option.not_isSome_iff_eq_none, boolOfCode_isSome]
  simpa using h

theorem boolOfCode_of_low {b : Byte} (h : b.toNat ≤ 1) : boolOfCode b = some (decide (b = 1)) := by
  have hcases : b = 0 ∨ b = 1 := by bv_omega
  rcases hcases with rfl | rfl <;> rfl

theorem Polarity.ofCode_of_high {b : Byte} (h : 1 < b.toNat) : Polarity.ofCode b = none := by
  unfold Polarity.ofCode
  rw [if_neg (by rintro rfl; simp at h), if_neg (by rintro rfl; simp at h)]

theorem Polarity.ofCode_of_low {b : Byte} (h : b.toNat ≤ 1) : Polarity.ofCode b = some (if b = 0 then .low else .high) := by
  have hcases : b = 0 ∨ b = 1 := by bv_omega
  rcases hcases with rfl | rfl <;> rfl

theorem filterOf_of_mem {b : Byte} (h : b ∈ [0, 2, 5, 10]) : filterOf b = some b.toNat := by
  simp only [List.mem_cons, List.not_mem_nil, or_false] at h
  rcases h with rfl | rfl | rfl | rfl <;> rfl

theorem filterOf_of_not_mem {b : Byte} (h : b ∉ [0, 2, 5, 10]) : filterOf b = none := by
  simp only [List.mem_cons, List.not_mem_nil, or_false, not_or] at h
  obtain ⟨h0, h2, h5, h10⟩ := h
  simp only [filterOf, h0, h2, h5, h10]
  rfl

theorem carrySetLine_of_ok {line enabled polarity filter : Byte} (hzero : line ≠ 0) (hhigh : line.toNat ≤ 24) (henabled : enabled.toNat ≤ 1)
    (hpolarity : polarity.toNat ≤ 1) (hfilter : filter ∈ [0, 2, 5, 10]) (s : State) :
    carrySetLine line enabled polarity filter s =
      (s.setLineAt line.toNat ((s.lineAt line.toNat).setUp (enabled = 1) (if polarity = 0 then .low else .high) filter.toNat)).done
        [line, ((s.lineAt line.toNat).setUp (enabled = 1) (if polarity = 0 then .low else .high) filter.toNat).state.code] := by
  simp [carrySetLine, teamOf_of_range hzero hhigh, boolOfCode_of_low henabled, Polarity.ofCode_of_low hpolarity, filterOf_of_mem hfilter,
    form1_eq]

theorem carrySetLine_of_out {line enabled polarity filter : Byte}
    (h : line = 0 ∨ 24 < line.toNat ∨ 1 < enabled.toNat ∨ 1 < polarity.toNat ∨ filter ∉ [0, 2, 5, 10]) (s : State) :
    carrySetLine line enabled polarity filter s = s.refuse .outOfRange := by
  unfold carrySetLine
  split
  next n e p f hteam henabled hpolarity hfilter =>
    rcases h with h | h | h | h | h
    · simp [teamOf_of_out (.inl h)] at hteam
    · simp [teamOf_of_out (.inr h)] at hteam
    · simp [boolOfCode_of_high h] at henabled
    · simp [Polarity.ofCode_of_high h] at hpolarity
    · simp [filterOf_of_not_mem h] at hfilter
  · rfl

theorem carryReadLine_of_range {line : Byte} (hzero : line ≠ 0) (hhigh : line.toNat ≤ 24) (s : State) :
    carryReadLine line s = s.done (s.lineView line.toNat) := by
  rw [carryReadLine, teamOf_of_range hzero hhigh]

theorem receiverOf_of_range {b : Byte} (h : b.toNat ≤ 3) : receiverOf b = some b.toNat := if_pos h

theorem receiverOf_of_out {b : Byte} (h : 3 < b.toNat) : receiverOf b = none := if_neg (not_le.mpr h)

/-- Settles O45: SET LINE and SET RECEIVER by their ranges, READ LINE and READ RECEIVER by their forms. -/
theorem lineAndReceiverCommands : Obligations.LineAndReceiverCommands := by
  refine ⟨fun line enabled polarity filter s hw => ⟨fun hout => ?_, fun hzero hhigh hpolarity hfilter => ⟨_, rfl, fun henabled => ?_,
    fun henabled => ?_⟩⟩, fun line s hw => ⟨fun hout => ?_, ?_, ?_⟩, fun r enabled offset s hw => ⟨fun hout => ?_, fun hr henabled => ?_⟩,
    fun r s hw => ⟨fun hout => ?_, fun hr => ?_⟩⟩
  · exact replies_refuse rfl hw (carrySetLine_of_out hout s)
  · refine replies_done rfl hw ?_
    rw [carrySetLine_of_ok hzero hhigh (by rw [henabled]; decide) hpolarity hfilter, henabled]
    rfl
  · refine replies_done rfl hw ?_
    rw [carrySetLine_of_ok hzero hhigh (by rw [henabled]; decide) hpolarity hfilter, henabled]
    rfl
  · exact replies_refuse rfl hw (by rw [carryReadLine, teamOf_of_out hout])
  · rintro r rfl hzero hhigh hstate
    refine replies_done rfl hw ?_
    rw [carryReadLine_of_range hzero hhigh]
    simp [State.lineView, hstate, formBool, form1_eq, form2]
  · rintro r rfl hzero hhigh hstate
    refine replies_done rfl hw ?_
    rw [carryReadLine_of_range hzero hhigh]
    simp [State.lineView, hstate, formBool, form1_eq, form2, LineState.code, LineLevel.code]
  · refine replies_refuse rfl hw ?_
    rcases hout with h | h
    · simp [carrySetReceiver, receiverOf_of_out h]
    · simp [carrySetReceiver, boolOfCode_of_high h]
  · exact replies_done rfl hw (by
      simp [carrySetReceiver, receiverOf_of_range hr, boolOfCode_of_low henabled, form1_eq])
  · exact replies_refuse rfl hw (by rw [carryReadReceiver, receiverOf_of_out hout])
  · exact replies_done rfl hw (by
      simp [carryReadReceiver, receiverOf_of_range hr, formBool, form1_eq, form2])

end Sys2Proof.Machine
end

section
/-! The Handset Intake: pad frames and runts, takes, and the roster and guest map commands (R68 to R89). -/

namespace Sys2Proof.Machine

/-! ### The bytes of a pad frame -/

/-- The pad port inside a frame, after the bytes `p` (R69). -/
def State.inPad (s : State) (p : List Byte) : State := s.setIntake { s.intake with port := some p, portGap := 0 }

theorem padFrame_ofTail_of_short {p : List Byte} (h : p.length < 7) : PadFrame.ofTail p = none := by
  unfold PadFrame.ofTail
  split
  · simp at h
  · rfl

theorem State.padByte_of_none {s : State} (h : s.intake.port = none) (b : Byte) :
    s.padByte b = if b = 0xB4 then s.setIntake { s.intake with port := some [], portGap := 0 } else s := by
  simp only [State.padByte, h]
  rfl

theorem State.padByte_of_some {s : State} {p : List Byte} (h : s.intake.port = some p) (hgap : s.intake.portGap ≤ 1) (b : Byte) :
    s.padByte b = s.padByteInside p b := by
  have hlimit : ¬padGapLimit < s.intake.portGap := not_lt.mpr hgap
  simp only [State.padByte, h, hlimit, if_false]

theorem State.padByteInside_of_short (s : State) {p : List Byte} (h : p.length < 6) (b : Byte) :
    s.padByteInside p b = s.inPad (p ++ [b]) := by
  have hshort : (p ++ [b]).length < 7 := by
    rw [List.length_append, List.length_singleton]
    omega
  simp only [State.padByteInside, padFrame_ofTail_of_short hshort]
  rfl

theorem State.foldl_padByte_inPad (s : State) (p q : List Byte) (h : p.length + q.length ≤ 6) :
    q.foldl State.padByte (s.inPad p) = s.inPad (p ++ q) := by
  induction q generalizing p with
  | nil => rw [List.append_nil]; rfl
  | cons b q ih =>
    simp only [List.length_cons] at h
    have hstep : (s.inPad p).padByte b = s.inPad (p ++ [b]) := by
      rw [State.padByte_of_some (s := s.inPad p) rfl (Nat.zero_le 1), State.padByteInside_of_short _ (by omega)]
      rfl
    rw [List.foldl_cons, hstep, ih _ (by rw [List.length_append, List.length_singleton]; omega), List.append_assoc, List.singleton_append]

/-- The bytes of a frame that arrive at a waiting port make the frame (R69, log 28). -/
theorem exec_padFrameArrival_of_none {s : State} (h : s.intake.port = none) (f : PadFrame) :
    exec (.padFrameArrival f) s = .next (s.padWaits.padFrame f) := by
  have hbytes : s.intake.bytesToCome f.bytes = 0xB4 :: f.covered ++ [f.check] := by
    rw [Intake.bytesToCome, h]
    rfl
  have hlength : f.covered.length = 6 := by simp [PadFrame.covered, length_bytesOf]
  have hsync : s.padByte 0xB4 = s.inPad [] := by rw [State.padByte_of_none h]; rfl
  have hlast : (s.inPad f.covered).padByte f.check = s.padWaits.padFrame f := by
    have htail : PadFrame.ofTail (f.covered ++ [f.check]) = some f := Sys2Proof.Machine.PadFrame.ofTail_bytes f
    rw [State.padByte_of_some (s := s.inPad f.covered) rfl (Nat.zero_le 1), State.padByteInside, htail]
    rfl
  show Host.Outcome.next _ = _
  rw [hbytes, List.foldl_append, List.foldl_cons (b := s), hsync, State.foldl_padByte_inPad _ _ _ (by simp [hlength]), List.nil_append]
  exact congrArg Host.Outcome.next hlast

/-! ### Discarded and accepted frames -/

theorem State.badFrame_of_receiver (s : State) (x : BadFrameReason) {b : Byte} (h : b.toNat ≤ 3) : s.badFrame x (some b) =
    (s.setReceiverAt b.toNat { s.receiverAt b.toNat with refused := min 65535 ((s.receiverAt b.toNat).refused + 1) }).raise
      (.badFrame x (some b.toNat)) := by
  simp only [State.badFrame, receiverTold, h, if_true, State.countRefused, bump]

theorem State.badFrame_of_no_receiver (s : State) (x : BadFrameReason) {b : Byte} (h : 3 < b.toNat) :
    s.badFrame x (some b) = s.raise (.badFrame x none) := by
  simp only [State.badFrame, receiverTold, Nat.not_le.mpr h, if_false]

theorem PadKey.ofCode_isNone_iff (b : Byte) : (PadKey.ofCode b).isNone = true ↔ b = 0 ∨ 8 < b.toNat := by
  unfold PadKey.ofCode OptKey.ofCode
  split_ifs <;> simp <;> bv_omega

theorem State.padFault_eq (s : State) (f : PadFrame) : s.padFault f =
    if f.check ≠ f.receiver ^^^ BitVec.ofNat 8 (f.handset.toNat / 256) ^^^ BitVec.ofNat 8 f.handset.toNat ^^^ f.key ^^^
        f.sequence ^^^ f.age then some .check
    else if 3 < f.receiver.toNat ∨ (s.receiverAt f.receiver.toNat).enabled = false then some .receiver
    else if f.handset = 0 ∨ f.handset = 65535 then some .handsetId
    else if f.key = 0 ∨ 8 < f.key.toNat then some .key
    else none := by
  have hxor : xorAll f.covered = f.receiver ^^^ BitVec.ofNat 8 (f.handset.toNat / 256) ^^^ BitVec.ofNat 8 f.handset.toNat ^^^ f.key ^^^
      f.sequence ^^^ f.age := by
    simp [xorAll, PadFrame.covered, bytesOf]
  have hhandset : (!handsetOk f.handset) = true ↔ f.handset = 0 ∨ f.handset = 65535 := by
    unfold handsetOk
    rw [Bool.not_eq_true', Bool.and_eq_false_iff]
    simp
  simp only [State.padFault, hxor, Bool.or_eq_true, decide_eq_true_eq, Bool.not_eq_true', hhandset, PadKey.ofCode_isNone_iff]

/-- What a frame without a fault has passed (R69). -/
theorem State.receiver_of_good {s : State} {f : PadFrame} (h : s.padFault f = none) :
    f.receiver.toNat ≤ 3 ∧ f.receiver.toNat < s.intake.receivers.length := by
  rw [State.padFault_eq] at h
  split_ifs at h with hcheck hreceiver
  rw [not_or, not_lt] at hreceiver
  refine ⟨hreceiver.1, ?_⟩
  by_contra hlength
  have hnone : s.intake.receivers[f.receiver.toNat]? = none := List.getElem?_eq_none (not_lt.mp hlength)
  simp [State.receiverAt, List.getD_eq_getElem?_getD, hnone] at hreceiver

theorem State.receiverAt_setReceiverAt (s : State) {r : Nat} (h : r < s.intake.receivers.length) (x : Receiver) :
    (s.setReceiverAt r x).receiverAt r = x := by
  simp [State.receiverAt, State.setReceiverAt, h]

/-- A frame without a fault arrives (R70, R72). -/
theorem State.padFrame_of_good {s : State} {f : PadFrame} (h : s.padFault f = none) : s.padFrame f = s.arrive f := by
  simp only [State.padFrame, h]

theorem State.padFrame_of_bad {s : State} {f : PadFrame} {x : BadFrameReason} (h : s.padFault f = some x) :
    s.padFrame f = s.badFrame x (some f.receiver) := by
  simp only [State.padFrame, h]

/-- A good frame makes an entry of the FIFO (R70). -/
theorem State.arrive_of_room {s : State} (f : PadFrame) (h : s.intake.fifo.length < 32) : s.arrive f =
    (s.countAccepted f.receiver.toNat).setIntake
      { (s.countAccepted f.receiver.toNat).intake with fifo := s.intake.fifo ++ [s.entryOf f], taking := true } :=
  if_pos h

theorem State.arrive_of_full {s : State} (f : PadFrame) (h : 32 ≤ s.intake.fifo.length) :
    s.arrive f = s.overrunDrop f.receiver.toNat :=
  if_neg (not_lt.mpr h)

/-- A frame dropped at a full FIFO: the first such drop is told (R72). -/
theorem State.overrunDrop_eq (s : State) {r : Nat} (h : r ≤ 3) : s.overrunDrop r =
    ((s.setReceiverAt r { s.receiverAt r with refused := min 65535 ((s.receiverAt r).refused + 1) }).setIntake
      { s.intake with
        overrun := true
        receivers := s.intake.receivers.set r { s.receiverAt r with refused := min 65535 ((s.receiverAt r).refused + 1) } }).setLink
      (if s.intake.overrun then s.link else s.link.note ⟨none, .overrun r⟩) := by
  unfold State.overrunDrop State.countRefused
  dsimp only
  rw [if_pos h]
  cases ho : s.intake.overrun with
  | false => rfl
  | true =>
    rw [if_pos rfl, if_pos rfl, ← ho]
    rfl

theorem exec_padRunt_of_some {s : State} {p : List Byte} (h : s.intake.port = some p) (hgap : 1 ≤ s.intake.portGap) :
    exec .padRunt s = .next (s.runt p) := by
  have hlimit : padGapLimit ≤ s.intake.portGap := hgap
  simp only [exec, execPadRunt, h, hlimit, if_true]

/-- Settles O47: the frame that the eight bytes make, its faults in order, and runts. -/
theorem padFramesArriveOrAreDiscarded : Obligations.PadFramesArriveOrAreDiscarded := by
  refine ⟨?frames, fun f s => s.padFault_eq f, fun b s hport => ?_, fun b p s hport => ⟨fun hgap hlength => ?_, fun hgap => ?_⟩, ?_⟩
  case frames =>
    rintro f s u hport rfl
    rw [exec_padFrameArrival_of_none hport]
    refine ⟨fun x hfault => ?_, ?_⟩
    · rw [State.padFrame_of_bad (s := s.padWaits) hfault]
      split
      next hr => rw [State.badFrame_of_receiver _ _ hr]; rfl
      next hr => rw [State.badFrame_of_no_receiver _ _ (not_le.mp hr)]; rfl
    · rintro r k hfault rfl hkey
      obtain ⟨hr, hlength⟩ := State.receiver_of_good (s := s.padWaits) hfault
      rw [State.padFrame_of_good (s := s.padWaits) hfault]
      refine ⟨fun hroom => ⟨_, rfl, ?_⟩, fun hfull => ⟨_, rfl, ?_⟩⟩
      · rw [State.arrive_of_room (s := s.padWaits) f hroom]
        refine ⟨?_, rfl, rfl, ?_, rfl, rfl, rfl, rfl, rfl⟩
        · simp only [State.entryOf, hkey]
          rfl
        · exact congrArg Receiver.accepted (State.receiverAt_setReceiverAt s.padWaits hlength _)
      · rw [State.arrive_of_full (s := s.padWaits) f hfull, State.overrunDrop_eq _ hr]
        exact ⟨rfl, rfl, congrArg Receiver.refused (State.receiverAt_setReceiverAt s.padWaits hlength _), rfl, rfl⟩
  · exact congrArg Host.Outcome.next (State.padByte_of_none hport b)
  · show Host.Outcome.next _ = _
    rw [State.padByte_of_some hport hgap, State.padByteInside_of_short _ hlength]
    rfl
  · refine ⟨s.runt p, (s.runt p).padByteOutside b, exec_padRunt_of_some hport (by omega), ?_, rfl⟩
    have hlimit : padGapLimit < s.intake.portGap := hgap
    simp only [exec, execPadByteReceived, State.padByte, hport, hlimit, if_true]
  · rintro p s u hport rfl hgap
    rw [exec_padRunt_of_some hport hgap]
    refine ⟨?_, ?_, ?_⟩
    · rintro rfl
      rfl
    · rintro x q rfl hx
      exact congrArg Host.Outcome.next (s.padWaits.badFrame_of_receiver .runt hx)
    · rintro x q rfl hx
      exact congrArg Host.Outcome.next (s.padWaits.badFrame_of_no_receiver .runt hx)

/-! ### Takes -/

theorem Intake.positionOf_eq_none_iff (x : Intake) (h : BitVec 16) :
    x.positionOf h = none ↔ ∀ r, some r ∈ x.roster → r.handset ≠ h := by
  rw [Intake.positionOf, List.findIdx?_eq_none_iff]
  constructor
  · intro hnone r hr
    simpa using hnone (some r) hr
  · intro hne x hx
    cases x with
    | none => simp
    | some r => simpa using hne r hx

theorem Intake.positionOf_eq_some {x : Intake} {h : BitVec 16} {p : Nat} (hp : x.positionOf h = some p) :
    ∃ r, x.rosterAt p = some r ∧ x.roster[p]? = some (some r) ∧ r.handset = h := by
  obtain ⟨hlength, hat, _⟩ := List.findIdx?_eq_some_iff_getElem.mp hp
  obtain ⟨r, hr, hid⟩ : ∃ r, x.roster[p] = some r ∧ r.handset = h := by simpa using hat
  have hget : x.roster[p]? = some (some r) := by rw [List.getElem?_eq_getElem hlength, hr]
  exact ⟨r, by simp [Intake.rosterAt, hget], hget, hid⟩

theorem State.repeatImproves_iff (s : State) (e : FifoEntry) (n : Nat) : s.repeatImproves e n = true ↔
    ∃ a c, e.key = .buzz ∧ e.arrival = some a ∧ s.arbiter.claimOf n = some c ∧
      (a : Int) - e.age - (s.receiverAt e.receiver).offset < c.stamp := by
  unfold State.repeatImproves State.stampOf
  cases e.arrival <;> cases s.arbiter.claimOf n <;> simp

theorem FifoEntry.repeats_iff (e : FifoEntry) (r : RosterEntry) :
    e.repeats r = true ↔ r.lastSequence = some e.sequence ∧ r.lastSerial = some e.serial := by
  simp [FifoEntry.repeats]

theorem State.handle_of_roster {s : State} {e : FifoEntry} {p : Nat} {r : RosterEntry} (hp : s.intake.positionOf e.handset = some p)
    (hr : s.intake.rosterAt p = some r) : s.handle e = s.handleRoster e p r := by
  have hentry : s.intake.rosterEntryOf e.handset = some (p, r) := by simp [Intake.rosterEntryOf, hp, hr]
  simp only [State.handle, hentry]

theorem RosterEntry.updateEvents_eq (r : RosterEntry) (e : FifoEntry) : r.updateEvents e =
    (if r.present = true then [] else [.handsetPresent r.handset r.team r.seat])
      ++ (if r.batteryLow = false ∧ e.batteryLow = true then [.batteryLow r.handset r.team r.seat]
        else if r.batteryLow = true ∧ e.batteryLow = false then [.batteryOk r.handset r.team r.seat]
        else []) := by
  unfold RosterEntry.updateEvents
  cases r.batteryLow <;> cases e.batteryLow <;> rfl

theorem exec_takeComplete {s : State} {e : FifoEntry} {rest : List FifoEntry} (hfifo : s.intake.fifo = e :: rest)
    (htaking : s.intake.taking = true) : exec .takeComplete s = .next (s.completeTake e) := by
  simp only [exec, execTakeComplete, hfifo, htaking, if_true]

theorem State.outsideRound_iff (s : State) (e : FifoEntry) :
    s.outsideRound e = true ↔ s.live = false ∨ e.arrival = none ∨ e.serial ≠ s.engine.serial := by
  simp [State.outsideRound, or_assoc]

theorem State.handleKey_of_outside {s : State} {e : FifoEntry} (p n : Option Nat) (hkey : e.key ≠ .hello)
    (h : s.live = false ∨ e.arrival = none ∨ e.serial ≠ s.engine.serial) :
    s.handleKey e p n = s.setIntake { s.intake with outside := min 65535 (s.intake.outside + 1) } := by
  rw [State.handleKey, if_neg hkey, State.checkRound, if_pos ((s.outsideRound_iff e).mpr h)]

theorem State.handleKey_of_inside {s : State} {e : FifoEntry} (p n : Option Nat) {a : Nat} (hkey : e.key ≠ .hello)
    (hlive : s.live = true) (ha : e.arrival = some a) (hserial : e.serial = s.engine.serial) : s.handleKey e p n =
      if e.paused = false ∧ s.stampOf e a < 0 then s.setIntake { s.intake with stale := min 65535 (s.intake.stale + 1) }
      else s.dispatch e p n a := by
  have hinside : ¬s.outsideRound e = true := by
    rw [s.outsideRound_iff]
    simp [hlive, ha, hserial]
  rw [State.handleKey, if_neg hkey, State.checkRound, if_neg hinside]
  simp only [ha, Bool.and_eq_true, Bool.not_eq_true', decide_eq_true_eq]

/-- Settles O48: the front entry's handling by handset, repeat, round and key, and the completion of the take. -/
theorem takesHandleTheFrontEntry : Obligations.TakesHandleTheFrontEntry := by
  refine ⟨fun x h => ⟨x.positionOf_eq_none_iff h, fun p => Intake.positionOf_eq_some⟩, fun e rest s hfifo htaking =>
    ⟨⟨s.handle e, _, rfl, rfl, ?_, exec_takeComplete hfifo htaking⟩, State.handle_of_unknown, State.handle_of_guest, fun p r hp hr =>
      ⟨fun hsequence hserial hlate => ?_, fun hnew => ?_⟩, fun u p t => ⟨fun hhello => if_pos hhello, State.handleKey_of_outside p t,
        fun a x hkey hlive ha hserial hx => ⟨fun hpaused hneg => ?_, fun hok => ?_⟩⟩⟩⟩
  · rw [State.handle_fifo, hfifo]
  · have hnot : s.repeatImproves e r.team = false := by
      rw [← Bool.not_eq_true, s.repeatImproves_iff]
      rintro ⟨a, c, hbuzz, ha, hc, hlt⟩
      exact absurd (hlate a c hbuzz ha hc) (not_le.mpr hlt)
    have hrepeats := (e.repeats_iff r).mpr ⟨hsequence, hserial⟩
    rw [State.handle_of_roster hp hr, State.handleRoster, hrepeats, hnot]
    rfl
  · have hnot : (e.repeats r && !s.repeatImproves e r.team) = false := by
      rw [← Bool.not_eq_true, Bool.and_eq_true, e.repeats_iff, Bool.not_eq_true', ← Bool.not_eq_true, s.repeatImproves_iff]
      rintro ⟨⟨hsequence, hserial⟩, himproves⟩
      rcases hnew with h | h | h
      · exact h hsequence
      · exact h hserial
      · exact himproves h
    rw [State.handle_of_roster hp hr, State.handleRoster, hnot, ← RosterEntry.updateEvents_eq]
    rfl
  · rw [State.handleKey_of_inside p t hkey hlive ha hserial, if_pos ⟨hpaused, (by rw [hx] at hneg; exact hneg)⟩]
  · have hpass : ¬(e.paused = false ∧ u.stampOf e a < 0) := by
      rintro ⟨hpaused, hneg⟩
      rcases hok with h | h
      · rw [h] at hpaused; cases hpaused
      · rw [hx] at h; exact absurd hneg (not_lt.mpr h)
    rw [State.handleKey_of_inside p t hkey hlive ha hserial, if_neg hpass, hx]
    refine ⟨fun k hk => ?_, fun n hk hn hteam hkind => ?_, fun hk hnone => ?_⟩
    · rw [State.dispatch, hk]
      rfl
    · rw [State.dispatch, hk]
      simp only [State.dispatchBuzz, hn, hkind, hteam]
      rfl
    · rw [State.dispatch, hk]
      show u.dispatchBuzz e t a = u
      unfold State.dispatchBuzz
      rcases hnone with h | h | h
      · cases t <;> simp [h]
      · rw [h]
      · rw [h]
        simp [isTeamNumber]

/-! ### The roster and guest map commands -/

theorem form1?_eq_sentOr (x : Option Nat) : form1? x = sentOr 1 x := by cases x <;> rfl
theorem form2?_eq_sentOr (x : Option Nat) : form2? x = sentOr 2 x := by cases x <;> rfl
theorem form3?_eq_sentOr (x : Option Nat) : form3? x = sentOr 3 x := by cases x <;> rfl
theorem formBool_eq_sentMark (b : Bool) : formBool b = [sentMark b] := rfl

theorem handsetOk_of_ne {h : BitVec 16} (hzero : h ≠ 0) (htop : h ≠ 65535) : handsetOk h = true := by
  rw [handsetOk, Bool.and_eq_true]
  exact ⟨decide_eq_true hzero, decide_eq_true htop⟩

theorem handsetOk_of_out {h : BitVec 16} (hout : h = 0 ∨ h = 65535) : handsetOk h = false := by
  rcases hout with rfl | rfl <;> rfl

theorem handsetOk_or_team {h : BitVec 16} {team : Byte} (hout : h = 0 ∨ h = 65535 ∨ 24 < team.toNat) :
    (!handsetOk h || decide (24 < team.toNat)) = true := by
  rcases hout with h | h | h
  · rw [handsetOk_of_out (.inl h)]; rfl
  · rw [handsetOk_of_out (.inr h)]; rfl
  · simp [h]

theorem Intake.freePosition_eq_none {x : Intake} (h : ∀ r ∈ x.roster, r ≠ none) : x.freePosition = none :=
  List.findIdx?_eq_none_iff.mpr fun r hr => decide_eq_false (h r hr)

theorem Intake.freePosition_eq_some {x : Intake} {p : Nat} (hp : x.roster[p]? = some none) (hlow : ∀ q, q < p → x.roster[q]? ≠ some none) :
    x.freePosition = some p := by
  obtain ⟨hlength, hat⟩ := List.getElem?_eq_some_iff.mp hp
  refine List.findIdx?_eq_some_iff_getElem.mpr ⟨hlength, decide_eq_true hat, fun q hq => ?_⟩
  rw [decide_eq_true_eq]
  exact fun hnone => hlow q hq (List.getElem?_eq_some_iff.mpr ⟨by omega, hnone⟩)

theorem Intake.rosterEntryOf_of_position {x : Intake} {h : BitVec 16} {p : Nat} {r : RosterEntry} (hp : x.positionOf h = some p)
    (hr : x.rosterAt p = some r) : x.rosterEntryOf h = some (p, r) := by
  simp [Intake.rosterEntryOf, hp, hr]

theorem RosterEntry.view_eq (r : RosterEntry) (p : Nat) : r.view p = rosterReply p r := by
  have hbattery : sentMark (!r.batteryLow) = if r.batteryLow then 0 else 1 := by cases r.batteryLow <;> rfl
  simp [RosterEntry.view, rosterReply, form1?_eq_sentOr, formBool_eq_sentMark, form1_eq, hbattery]

/-- Settles O50: the roster edits by their checks in order, and the reads by their forms. -/
theorem rosterAndGuestMapCommands : Obligations.RosterAndGuestMapCommands := by
  refine ⟨fun h team seat s hw => ⟨fun hlive => ?_, fun hlive hout => ?_, fun hlive hzero htop hteam => ⟨fun hp => ?_, fun hp hfull => ?_,
    fun p hp hfree hlow => ?_⟩⟩, fun h s hw => ⟨fun hlive => ?_, fun hlive hout => ?_, fun hlive hzero htop hp => ?_, fun p hlive hzero htop hp => ?_⟩,
    fun h team seat s hw => ⟨fun hlive => ?_, fun hlive hout => ?_, fun hlive hzero htop hteam => ⟨fun hp => ?_, fun p r hp hr => ?_⟩⟩,
    fun s hw => ⟨fun hlive => ?_, fun hlive => ?_⟩, fun m s hw => ⟨fun hlive => ?_, fun hlive => ?_⟩, fun s hw => ?_,
    fun h s hw => ⟨fun hp => ?_, fun p r hp hr => ?_⟩, fun p s hw => ⟨fun hhigh => ?_, fun hp => ⟨fun r hr => ?_, fun hnone => ?_⟩⟩⟩
  · exact replies_refuse rfl hw (by simp [carryEnroll, hlive])
  · exact replies_refuse rfl hw (by simp only [carryEnroll, hlive, handsetOk_or_team hout, if_true]; rfl)
  · have hsome : (s.intake.positionOf h).isSome = true := Option.isSome_iff_ne_none.mpr hp
    exact replies_refuse rfl hw (by simp [carryEnroll, hlive, handsetOk_of_ne hzero htop, Nat.not_lt.mpr hteam, hsome])
  · exact replies_refuse rfl hw (by
      simp [carryEnroll, hlive, handsetOk_of_ne hzero htop, Nat.not_lt.mpr hteam, hp, Intake.freePosition_eq_none hfull])
  · exact replies_done rfl hw (by
      simp [carryEnroll, hlive, handsetOk_of_ne hzero htop, Nat.not_lt.mpr hteam, hp, Intake.freePosition_eq_some hfree hlow, form1_eq,
        Intake.setRosterAt, RosterEntry.enrolled])
  · exact replies_refuse rfl hw (by simp [carryWithdraw, hlive])
  · exact replies_refuse rfl hw (by simp [carryWithdraw, hlive, handsetOk_of_out hout])
  · exact replies_refuse rfl hw (by simp [carryWithdraw, hlive, handsetOk_of_ne hzero htop, hp])
  · exact replies_done rfl hw (by simp [carryWithdraw, hlive, handsetOk_of_ne hzero htop, hp, Intake.setRosterAt])
  · exact replies_refuse rfl hw (by simp [carryMove, hlive])
  · exact replies_refuse rfl hw (by simp only [carryMove, hlive, handsetOk_or_team hout, if_true]; rfl)
  · exact replies_refuse rfl hw (by
      simp [carryMove, hlive, handsetOk_of_ne hzero htop, Nat.not_lt.mpr hteam, Intake.rosterEntryOf_of_position_none hp])
  · have hentry := Intake.rosterEntryOf_of_position hp (r := r) (by simp [Intake.rosterAt, hr])
    exact replies_done rfl hw (by
      simp [carryMove, hlive, handsetOk_of_ne hzero htop, Nat.not_lt.mpr hteam, hentry, Intake.setRosterAt])
  · exact replies_refuse rfl hw (by simp [carryClearRoster, hlive])
  · exact replies_done rfl hw (by simp [carryClearRoster, hlive])
  · exact replies_refuse rfl hw (by simp [carrySetGuestMap, hlive])
  · exact replies_done rfl hw (by simp [carrySetGuestMap, hlive])
  · exact replies_done rfl hw rfl
  · exact replies_refuse rfl hw (by simp [carryReadHandset, Intake.rosterEntryOf_of_position_none hp])
  · exact replies_done rfl hw (by simp [carryReadHandset, Intake.rosterEntryOf_of_position hp hr, RosterEntry.view_eq])
  · exact replies_refuse rfl hw (by simp [carryReadRoster, hhigh])
  · exact replies_done rfl hw (by simp [carryReadRoster, Nat.not_lt.mpr hp, hr, RosterEntry.view_eq])
  · exact replies_done rfl hw (by simp [carryReadRoster, Nat.not_lt.mpr hp, hnone, freeView, form1_eq])

end Sys2Proof.Machine
end

section
/-! The Standings Unit and the house cup: score changes, positions and places, and the desk commands of both (R132 to
R162). -/

namespace Sys2Proof.Machine

/-! ### A score change -/

theorem Standings.teamAt_set_self {x : Standings} {ts : List TeamRecord} {n : Nat} {r : TeamRecord} (h : x.teams = ts.set (n - 1) r)
    (hlen : ts.length = 24) (hn : isTeamNumber n = true) : x.teamAt n = r := by
  obtain ⟨hlow, hhigh⟩ := (isTeamNumber_iff n).mp hn
  have hindex : n - 1 < ts.length := by omega
  simp [Standings.teamAt, h, hindex]

theorem Standings.teamAt_set_of_ne {x : Standings} {ts : List TeamRecord} {n m : Nat} {r : TeamRecord} (h : x.teams = ts.set (n - 1) r)
    (hn : isTeamNumber n = true) (hm : isTeamNumber m = true) (hne : m ≠ n) : x.teamAt m = ts.getD (m - 1) TeamRecord.reset := by
  obtain ⟨hlow, _⟩ := (isTeamNumber_iff n).mp hn
  obtain ⟨hmlow, _⟩ := (isTeamNumber_iff m).mp hm
  have hindex : n - 1 ≠ m - 1 := by omega
  simp [Standings.teamAt, h, List.getD_eq_getElem?_getD, List.getElem?_set_ne hindex]

theorem noStreaks_getD {ts : List TeamRecord} (hlen : ts.length = 24) {n : Nat} (hn : isTeamNumber n = true) :
    (noStreaks ts).getD (n - 1) TeamRecord.reset = { ts.getD (n - 1) TeamRecord.reset with streak := 0 } := by
  obtain ⟨hlow, hhigh⟩ := (isTeamNumber_iff n).mp hn
  have hindex : n - 1 < ts.length := by omega
  simp [noStreaks, hindex]

theorem Standings.apply_teams_length {x : Standings} (hlen : x.teams.length = 24) (q : ScoreRequest) :
    (if q.verdict = some .right then noStreaks x.teams else x.teams).length = 24 := by
  split <;> simp [noStreaks, hlen]

theorem Standings.apply_teamAt_self {x : Standings} (hlen : x.teams.length = 24) {q : ScoreRequest} (hq : isTeamNumber q.team = true) :
    (x.apply q).teamAt q.team = (x.teamAt q.team).changed q (q.counterAfter x) :=
  Standings.teamAt_set_self rfl (Standings.apply_teams_length hlen q) hq

theorem Standings.apply_teamAt_of_ne {x : Standings} (hlen : x.teams.length = 24) {q : ScoreRequest} (hq : isTeamNumber q.team = true)
    {n : Nat} (hn : isTeamNumber n = true) (hne : n ≠ q.team) : (x.apply q).teamAt n =
      if q.verdict = some .right then { x.teamAt n with streak := 0 } else x.teamAt n := by
  rw [Standings.teamAt_set_of_ne (x := x.apply q) rfl hq hn hne]
  split
  · exact noStreaks_getD hlen hn
  · rfl

theorem ScoreRequest.counterAfter_of_same {q : ScoreRequest} {x : Standings} (h : q.applied x = 0) : q.counterAfter x = x.counter :=
  if_pos h

theorem ScoreRequest.counterAfter_of_change {q : ScoreRequest} {x : Standings} (h : q.applied x ≠ 0) :
    q.counterAfter x = min 16777215 (x.counter + 1) :=
  if_neg h

theorem clampScore_eq (w : Int) : clampScore w = max (-999) (min 9999 w) := rfl

theorem clampScore_ne_iff (w : Int) : clampScore w ≠ w ↔ w < -999 ∨ 9999 < w := by
  rw [clampScore_eq]
  omega

/-- Settles O52: the changed record, the counter and the records of the other teams. -/
theorem scoreChangesFollowTheRequest : Obligations.ScoreChangesFollowTheRequest := by
  rintro x y q r u w hlen hteam rfl rfl hu hw
  rw [Standings.apply_teamAt_self hlen hteam] at hu
  have hwanted : q.move.wanted (x.teamAt q.team).score = w := by
    rw [hw]
    cases q.move <;> rfl
  have happlied : q.applied x = u.score - (x.teamAt q.team).score := by rw [hu]; rfl
  have hsame : u.score = (x.teamAt q.team).score ↔ q.applied x = 0 := by rw [happlied]; omega
  refine ⟨?_, ?_, happlied, fun h => ⟨?_, ?_⟩, fun h => ⟨?_, ?_⟩, fun hsource hverdict => ?_, fun hsource hverdict => ?_,
    fun hsource hverdict => ?_, fun hsource hverdict => ?_, ?_, ?_, ?_, fun t ht hne => Standings.apply_teamAt_of_ne hlen hteam ht hne,
    rfl, rfl, rfl, rfl⟩
  · rw [hu, ← hwanted]; rfl
  · have hclamped : u.clamped = decide (clampScore w ≠ w) := by rw [hu, ← hwanted]; rfl
    rw [hclamped, decide_eq_true_eq, clampScore_ne_iff]
  · exact ScoreRequest.counterAfter_of_same (hsame.mp h)
  · rw [hu] at h ⊢
    exact if_pos h
  · exact ScoreRequest.counterAfter_of_change (fun h0 => h (hsame.mpr h0))
  · rw [hu] at h ⊢
    exact if_neg h
  · simp [hu, TeamRecord.changed, streakAfter, correctAfter, wrongAfter, hsource, hverdict, bump]
  · rcases hverdict with h | h <;> simp [hu, TeamRecord.changed, streakAfter, correctAfter, wrongAfter, hsource, h, bump]
  · simp [hu, TeamRecord.changed, streakAfter, correctAfter, wrongAfter, hsource, hverdict]
  · rcases hsource with h | h | h <;> simp [hu, TeamRecord.changed, streakAfter, correctAfter, wrongAfter, h, hverdict]
  · rw [hu]; rfl
  · rw [hu]; rfl
  · rw [hu]; rfl

/-! ### Positions -/

/-- The order of R145 on the teams of a unit. -/
def Standings.precedes (x : Standings) (t u : Nat) : Prop :=
  (x.teamAt u).score < (x.teamAt t).score ∨ (x.teamAt t).score = (x.teamAt u).score ∧
    ((x.teamAt u).correct < (x.teamAt t).correct ∨ (x.teamAt t).correct = (x.teamAt u).correct ∧
      ((x.teamAt t).sequence < (x.teamAt u).sequence ∨ (x.teamAt t).sequence = (x.teamAt u).sequence ∧ t < u))

theorem Standings.before_iff (x : Standings) (t u : Nat) : (x.teamAt t).before t (x.teamAt u) u = true ↔ x.precedes t u := by
  simp [TeamRecord.before, Standings.precedes]

theorem Standings.precedes_irrefl (x : Standings) (t : Nat) : ¬x.precedes t t := by
  unfold Standings.precedes
  omega

theorem Standings.precedes_trans {x : Standings} {t u v : Nat} (h : x.precedes t u) (k : x.precedes u v) : x.precedes t v := by
  unfold Standings.precedes at *
  omega

theorem Standings.precedes_total (x : Standings) {t u : Nat} (h : t ≠ u) : x.precedes t u ∨ x.precedes u t := by
  unfold Standings.precedes
  omega

theorem Standings.mem_playingTeams_iff (x : Standings) (t : Nat) :
    t ∈ x.playingTeams ↔ isTeamNumber t = true ∧ (x.teamAt t).playing = true := by
  simp only [Standings.playingTeams, List.mem_filter, mem_teamNumbers_iff, Standings.isPlaying, Bool.and_eq_true, isTeamNumber_iff]
  tauto

theorem Standings.isPlaying_iff (x : Standings) (t : Nat) : x.isPlaying t = true ↔ t ∈ x.playingTeams := by
  rw [x.mem_playingTeams_iff]
  simp [Standings.isPlaying]

theorem teamNumbers_nodup : teamNumbers.Nodup := by decide

theorem Standings.playingTeams_nodup (x : Standings) : x.playingTeams.Nodup := teamNumbers_nodup.filter _

/-- The number of playing teams before a team (R145). -/
def Standings.ahead (x : Standings) (t : Nat) : Nat := x.playingTeams.countP fun u => (x.teamAt u).before u (x.teamAt t) t

theorem Standings.position_of_playing {x : Standings} {t : Nat} (h : t ∈ x.playingTeams) : x.position t = some (1 + x.ahead t) :=
  if_pos ((x.isPlaying_iff t).mpr h)

theorem Standings.mem_of_position {x : Standings} {t p : Nat} (h : x.position t = some p) : t ∈ x.playingTeams ∧ p = 1 + x.ahead t := by
  by_cases hplaying : x.isPlaying t = true
  · have hmem := (x.isPlaying_iff t).mp hplaying
    rw [Standings.position_of_playing hmem] at h
    exact ⟨hmem, (Option.some.inj h).symm⟩
  · simp [Standings.position, hplaying] at h

theorem countP_lt_countP {α : Type} {p q : α → Bool} {l : List α} (h : ∀ x ∈ l, p x = true → q x = true) {a : α} (ha : a ∈ l)
    (hp : p a = false) (hq : q a = true) : l.countP p < l.countP q := by
  obtain ⟨before, after, rfl⟩ := List.append_of_mem ha
  have hbefore : before.countP p ≤ before.countP q := List.countP_mono_left fun x hx => h x (by simp [hx])
  have hafter : after.countP p ≤ after.countP q := List.countP_mono_left fun x hx => h x (by simp [hx])
  simp only [List.countP_append, List.countP_cons, hp, hq, if_true, Bool.false_eq_true, if_false]
  omega

/-- Of two teams the one before has fewer before it: all of them are before the other, and so is it itself. -/
theorem Standings.ahead_lt {x : Standings} {t u : Nat} (ht : t ∈ x.playingTeams) (h : x.precedes t u) : x.ahead t < x.ahead u := by
  refine countP_lt_countP (fun v _ hv => ?_) ht ?_ ((x.before_iff t u).mpr h)
  · exact (x.before_iff v u).mpr (x.precedes_trans ((x.before_iff v t).mp hv) h)
  · rw [← Bool.not_eq_true, x.before_iff]
    exact x.precedes_irrefl t

theorem Standings.precedes_of_ahead_lt {x : Standings} {t u : Nat} (hu : u ∈ x.playingTeams) (h : x.ahead t < x.ahead u) :
    x.precedes t u := by
  have hne : t ≠ u := by rintro rfl; omega
  rcases x.precedes_total hne with h' | h'
  · exact h'
  · exact absurd (Standings.ahead_lt hu h') (by omega)

theorem Standings.ahead_injective {x : Standings} {t u : Nat} (ht : t ∈ x.playingTeams) (hu : u ∈ x.playingTeams)
    (h : x.ahead t = x.ahead u) : t = u := by
  by_contra hne
  rcases x.precedes_total hne with h' | h'
  · exact absurd (Standings.ahead_lt ht h') (by omega)
  · exact absurd (Standings.ahead_lt hu h') (by omega)

theorem Standings.ahead_lt_count {x : Standings} {t : Nat} (ht : t ∈ x.playingTeams) : x.ahead t < x.playingCount := by
  have hself : ((x.teamAt t).before t (x.teamAt t) t) = false := by
    rw [← Bool.not_eq_true, x.before_iff]
    exact x.precedes_irrefl t
  have h := countP_lt_countP (p := fun u => (x.teamAt u).before u (x.teamAt t) t) (q := fun _ => true) (fun v _ _ => rfl) ht hself rfl
  rwa [List.countP_true] at h

/-- The positions of the playing teams are all the numbers from 1: as many different ones as there are teams. -/
theorem Standings.ahead_surjective {x : Standings} {n : Nat} (h : n < x.playingCount) : ∃ t ∈ x.playingTeams, x.ahead t = n := by
  have hnodup : (x.playingTeams.map x.ahead).Nodup :=
    x.playingTeams_nodup.map_on fun t ht u hu h => Standings.ahead_injective ht hu h
  have hsubset : x.playingTeams.map x.ahead ⊆ List.range x.playingCount := fun m hm => by
    obtain ⟨t, ht, rfl⟩ := List.mem_map.mp hm
    exact List.mem_range.mpr (Standings.ahead_lt_count ht)
  have hperm : (x.playingTeams.map x.ahead).Perm (List.range x.playingCount) :=
    (hnodup.subperm hsubset).perm_of_length_le (by rw [List.length_range, List.length_map]; rfl)
  obtain ⟨t, ht, hn⟩ := List.mem_map.mp (hperm.mem_iff.mpr (List.mem_range.mpr h))
  exact ⟨t, ht, hn⟩

theorem Standings.position_eq_none_iff {x : Standings} {t : Nat} (ht : isTeamNumber t = true) :
    x.position t = none ↔ (x.teamAt t).playing = false := by
  cases h : (x.teamAt t).playing <;> simp [Standings.position, Standings.isPlaying, ht, h]

theorem Standings.rank_eq_none_iff {x : Standings} {t : Nat} (ht : isTeamNumber t = true) :
    x.rank t = none ↔ (x.teamAt t).playing = false := by
  cases htie : x.tie with
  | strict => simp only [Standings.rank, htie, Standings.position_eq_none_iff ht]
  | shared => cases h : (x.teamAt t).playing <;> simp [Standings.rank, htie, Standings.isPlaying, ht, h]

/-- A count over the playing teams is a count over all the teams that are playing. -/
theorem Standings.countP_playingTeams (x : Standings) (p : Nat → Bool) : x.playingTeams.countP p =
    (List.range 24).countP fun i => (x.teamAt (i + 1)).playing && p (i + 1) := by
  have hteams : teamNumbers = (List.range 24).map (· + 1) := rfl
  rw [Standings.playingTeams, List.countP_filter, hteams, List.countP_map]
  refine List.countP_congr fun i hi => ?_
  have hnumber : isTeamNumber (i + 1) = true := (isTeamNumber_iff _).mpr ⟨by omega, by have := List.mem_range.mp hi; omega⟩
  simp [Standings.isPlaying, hnumber, and_comm]

/-- Settles O54: the order is total on the playing teams, so their places are the numbers from 1, each once. -/
theorem positionsAreEachOnce : Obligations.PositionsAreEachOnce := by
  intro x
  refine ⟨fun t ht => ⟨Standings.position_eq_none_iff ht, Standings.rank_eq_none_iff ht⟩, fun p => ⟨fun ⟨hlow, hhigh⟩ => ?_, ?_⟩,
    fun t u p _ _ ht hu => ?_, ?_, fun htie t => ?_, fun htie t p hp => ?_⟩
  · obtain ⟨t, ht, hahead⟩ := Standings.ahead_surjective (x := x) (n := p - 1) (by omega)
    refine ⟨t, ((x.mem_playingTeams_iff t).mp ht).1, ?_⟩
    rw [Standings.position_of_playing ht, hahead]
    congr 1
    omega
  · rintro ⟨t, _, hp⟩
    obtain ⟨ht, rfl⟩ := Standings.mem_of_position hp
    have := Standings.ahead_lt_count ht
    omega
  · obtain ⟨htmem, htp⟩ := Standings.mem_of_position ht
    obtain ⟨humem, hup⟩ := Standings.mem_of_position hu
    exact Standings.ahead_injective htmem humem (by omega)
  · rintro t u p q a b rfl rfl ht hu hlt
    obtain ⟨_, htp⟩ := Standings.mem_of_position ht
    obtain ⟨humem, huq⟩ := Standings.mem_of_position hu
    exact Standings.precedes_of_ahead_lt humem (by omega)
  · simp only [Standings.rank, htie]
  · obtain ⟨ht, _⟩ := Standings.mem_of_position hp
    simp only [Standings.rank, htie, (x.isPlaying_iff t).mpr ht, if_true, x.countP_playingTeams]

/-! ### The commands of the Standings Unit -/

theorem storedName_of_out {len : Byte} (h : len = 0 ∨ 10 < len.toNat) (name : List Byte) : storedName len name = none := by
  refine if_neg ?_
  rcases h with rfl | h
  · simp
  · simp [Nat.not_le.mpr h]

theorem storedName_of_range {len : Byte} (hzero : len ≠ 0) (hhigh : len.toNat ≤ 10) (name : List Byte) : storedName len name =
    some ((name.take len.toNat).map fun c => if 0x20 ≤ c.toNat ∧ c.toNat ≤ 0x7E then c else 0x20) := by
  have hpos : 1 ≤ len.toNat := by bv_omega
  have hchar : nameChar = fun c => if 0x20 ≤ c.toNat ∧ c.toNat ≤ 0x7E then c else 0x20 := by
    funext c
    simp [nameChar]
  rw [storedName, if_pos (by simp [hpos, hhigh]), hchar]

theorem carrySetTeam_of_out {team len playing house : Byte} {name : List Byte} {s : State} (hfrozen : s.standings.frozen = false)
    (h : team = 0 ∨ 24 < team.toNat ∨ 1 < playing.toNat ∨ 6 < house.toNat ∨ len = 0 ∨ 10 < len.toNat) :
    carrySetTeam team len name playing house s = s.refuse .outOfRange := by
  rw [carrySetTeam, if_neg (by simp [hfrozen])]
  split
  next t p n hteam hplaying hname =>
    rcases h with h | h | h | h | h | h
    · simp [teamOf_of_out (.inl h)] at hteam
    · simp [teamOf_of_out (.inr h)] at hteam
    · simp [boolOfCode_of_high h] at hplaying
    · rw [if_pos h]
    · simp [storedName_of_out (.inl h)] at hname
    · simp [storedName_of_out (.inr h)] at hname
  · rfl

theorem carrySetTeam_of_range {team len playing house : Byte} {name : List Byte} {s : State} (hfrozen : s.standings.frozen = false)
    (hteam : team ≠ 0) (hteamHigh : team.toNat ≤ 24) (hplaying : playing.toNat ≤ 1) (hhouse : house.toNat ≤ 6) (hlen : len ≠ 0)
    (hlenHigh : len.toNat ≤ 10) : carrySetTeam team len name playing house s =
      if s.live = true ∧ (s.standings.teamAt team.toNat).playing ≠ (playing = 1 : Bool) then s.refuse .wrongState
      else s.storeTeam team.toNat ((name.take len.toNat).map fun c => if 0x20 ≤ c.toNat ∧ c.toNat ≤ 0x7E then c else 0x20) (playing = 1)
        house.toNat := by
  simp only [carrySetTeam, hfrozen, Bool.false_eq_true, if_false, teamOf_of_range hteam hteamHigh, boolOfCode_of_low hplaying,
    storedName_of_range hlen hlenHigh, Nat.not_lt.mpr hhouse, Bool.and_eq_true, decide_eq_true_eq, ne_comm]

/-- A desk correction of a team's score (R148, R149, R152). -/
theorem State.correct_eq (s : State) {q : ScoreRequest} (hsource : q.source = .adjust ∨ q.source = .set) (hverdict : q.verdict = none)
    (haward : q.award = none) : s.correct q =
      ((s.setStandings (s.standings.apply q)).setLink (s.link.note
        ⟨none, .scoreChanged q.team q.source none none (q.applied s.standings) ((s.standings.apply q).teamAt q.team).score
          ((s.standings.apply q).teamAt q.team).clamped ((s.standings.apply q).teamAt q.team).streak
          ((s.standings.apply q).teamAt q.team).sequence ((s.standings.apply q).position q.team)
          ((s.standings.apply q).rank q.team)⟩)).done
        (bytesOf 2 (BitVec.ofInt 16 (q.applied s.standings)).toNat
          ++ bytesOf 2 (BitVec.ofInt 16 ((s.standings.apply q).teamAt q.team).score).toNat
          ++ [(((s.standings.apply q).position q.team).map (BitVec.ofNat 8)).getD 0xFF]) := by
  obtain ⟨team, source, verdict, award, move⟩ := q
  subst hverdict haward
  rw [← form1?_eq]
  rcases hsource with h | h <;> subst h <;> rfl

theorem carryAdjustScore_of_range {team : Byte} {d : BitVec 16} {s : State} (hfrozen : s.standings.frozen = false) (hteam : team ≠ 0)
    (hteamHigh : team.toNat ≤ 24) (hlow : -9999 ≤ d.toInt) (hhigh : d.toInt ≤ 9999) :
    carryAdjustScore team d s = s.correct ⟨team.toNat, .adjust, none, none, .by d.toInt⟩ := by
  simp [carryAdjustScore, hfrozen, teamOf_of_range hteam hteamHigh, scoreOf, hlow, hhigh]

theorem carrySetScore_of_range {team : Byte} {d : BitVec 16} {s : State} (hfrozen : s.standings.frozen = false) (hteam : team ≠ 0)
    (hteamHigh : team.toNat ≤ 24) (hlow : -999 ≤ d.toInt) (hhigh : d.toInt ≤ 9999) :
    carrySetScore team d s = s.correct ⟨team.toNat, .set, none, none, .target d.toInt⟩ := by
  simp [carrySetScore, hfrozen, teamOf_of_range hteam hteamHigh, scoreOf, hlow, hhigh]

theorem carryAdjustScore_of_out {team : Byte} {d : BitVec 16} {s : State} (hfrozen : s.standings.frozen = false)
    (h : d.toInt < -9999 ∨ 9999 < d.toInt) : carryAdjustScore team d s = s.refuse .outOfRange := by
  have hnot : ¬((decide (-9999 ≤ scoreOf d) && decide (scoreOf d ≤ 9999)) = true) := by
    rw [Bool.and_eq_true]
    rintro ⟨hlow, hhigh⟩
    have hlow := of_decide_eq_true hlow
    have hhigh := of_decide_eq_true hhigh
    unfold scoreOf at hlow hhigh
    omega
  rw [carryAdjustScore, if_neg (by simp [hfrozen])]
  split
  · rw [if_neg hnot]
  · rfl

theorem carrySetScore_of_out {team : Byte} {d : BitVec 16} {s : State} (hfrozen : s.standings.frozen = false)
    (h : d.toInt < -999 ∨ 9999 < d.toInt) : carrySetScore team d s = s.refuse .outOfRange := by
  have hnot : ¬((decide (-999 ≤ scoreOf d) && decide (scoreOf d ≤ 9999)) = true) := by
    rw [Bool.and_eq_true]
    rintro ⟨hlow, hhigh⟩
    have hlow := of_decide_eq_true hlow
    have hhigh := of_decide_eq_true hhigh
    unfold scoreOf at hlow hhigh
    omega
  rw [carrySetScore, if_neg (by simp [hfrozen])]
  split
  · rw [if_neg hnot]
  · rfl

theorem TieDisplay.ofCode_of_high {b : Byte} (h : 1 < b.toNat) : TieDisplay.ofCode b = none := by
  unfold TieDisplay.ofCode
  rw [if_neg (by rintro rfl; simp at h), if_neg (by rintro rfl; simp at h)]

theorem TieDisplay.ofCode_of_low {b : Byte} (h : b.toNat ≤ 1) : TieDisplay.ofCode b = some (if b = 0 then .strict else .shared) := by
  have hcases : b = 0 ∨ b = 1 := by bv_omega
  rcases hcases with rfl | rfl <;> rfl

/-- Settles O55: the commands of the unit by their checks in order. -/
theorem standingsCommands : Obligations.StandingsCommands := by
  refine ⟨fun team len playing house name s hw hname => ⟨fun hfrozen => ?_, fun hfrozen hout => ?_, ?_⟩, ?_, ?_,
    fun team d s hfrozen => ⟨fun hw hout => ?_, fun hw hout => ?_⟩, fun b s hw => ⟨fun hhigh => ?_, fun hlow => ?_⟩,
    fun s hw => ⟨fun hlive => ?_, fun hlive hfrozen => ?_, fun hlive hfrozen => ?_⟩, fun s hw => ⟨fun hfrozen => ?_, fun hfrozen => ?_⟩⟩
  · exact replies_refuse rfl hw (by simp [carrySetTeam, hfrozen])
  · exact replies_refuse rfl hw (carrySetTeam_of_out hfrozen hout)
  · rintro n y hfrozen hteam hteamHigh hplaying hhouse hlen hlenHigh rfl rfl
    refine ⟨fun hlive hchange => replies_refuse rfl hw ?_, fun hkeep => replies_done rfl hw ?_⟩
    · rw [carrySetTeam_of_range hfrozen hteam hteamHigh hplaying hhouse hlen hlenHigh, if_pos ⟨hlive, hchange⟩]
    · have hnot : ¬(s.live = true ∧ (s.standings.teamAt team.toNat).playing ≠ (playing = 1 : Bool)) := by
        rintro ⟨hlive, hchange⟩
        rcases hkeep with h | h
        · rw [h] at hlive; cases hlive
        · exact hchange h
      rw [carrySetTeam_of_range hfrozen hteam hteamHigh hplaying hhouse hlen hlenHigh, if_neg hnot, ← form1?_eq]
      rfl
  · rintro team d i s hw (rfl | rfl) hfrozen
    · exact replies_refuse rfl hw (by simp [carryAdjustScore, hfrozen])
    · exact replies_refuse rfl hw (by simp [carrySetScore, hfrozen])
  · rintro team d i q s hw (⟨rfl, rfl, hlow, hhigh⟩ | ⟨rfl, rfl, hlow, hhigh⟩)
    · refine ⟨fun hfrozen => replies_refuse rfl hw (by simp [carryAdjustScore, hfrozen]), fun hfrozen hout => replies_refuse rfl hw (by
        simp [carryAdjustScore, hfrozen, teamOf_of_out hout]), ?_⟩
      rintro y old z a hfrozen hteam hteamHigh rfl rfl rfl rfl
      refine replies_done rfl hw ?_
      rw [carryAdjustScore_of_range hfrozen hteam hteamHigh hlow hhigh, State.correct_eq _ (.inl rfl) rfl rfl, if_pos rfl]
      rfl
    · refine ⟨fun hfrozen => replies_refuse rfl hw (by simp [carrySetScore, hfrozen]), fun hfrozen hout => replies_refuse rfl hw (by
        simp [carrySetScore, hfrozen, teamOf_of_out hout]), ?_⟩
      rintro y old z a hfrozen hteam hteamHigh rfl rfl rfl rfl
      refine replies_done rfl hw ?_
      rw [carrySetScore_of_range hfrozen hteam hteamHigh hlow hhigh, State.correct_eq _ (.inr rfl) rfl rfl, if_neg (by simp)]
      rfl
  · exact replies_refuse rfl hw (carryAdjustScore_of_out hfrozen hout)
  · exact replies_refuse rfl hw (carrySetScore_of_out hfrozen hout)
  · exact replies_refuse rfl hw (by simp [carrySetTieDisplay, TieDisplay.ofCode_of_high hhigh])
  · exact replies_done rfl hw (by simp [carrySetTieDisplay, TieDisplay.ofCode_of_low hlow])
  · exact replies_refuse rfl hw (by simp [carryFreeze, hlive])
  · exact replies_done rfl hw (by simp [carryFreeze, hlive, hfrozen])
  · exact replies_done rfl hw (by simp [carryFreeze, hlive, hfrozen])
  · exact replies_done rfl hw (by simp [carryUnfreeze, hfrozen])
  · exact replies_done rfl hw (by simp [carryUnfreeze, hfrozen])

/-! ### The house cup -/

theorem carrySetHouse_of_out {house len shown games : Byte} {name : List Byte} {total : BitVec 24}
    (h : house = 0 ∨ 6 < house.toNat ∨ len = 0 ∨ 10 < len.toNat ∨ 1 < shown.toNat ∨ total.toInt < -99999 ∨ 999999 < total.toInt)
    (s : State) : carrySetHouse house len name shown total games s = s.refuse .outOfRange := by
  unfold carrySetHouse
  split
  next n p hname hshown =>
    refine if_neg ?_
    rw [Bool.and_eq_true, Bool.and_eq_true, houseTotalOk, Bool.and_eq_true]
    rintro ⟨⟨hlow, hhigh⟩, htotalLow, htotalHigh⟩
    have hlow := of_decide_eq_true hlow
    have hhigh := of_decide_eq_true hhigh
    have htotalLow := of_decide_eq_true htotalLow
    have htotalHigh := of_decide_eq_true htotalHigh
    unfold totalOf at htotalLow htotalHigh
    rcases h with rfl | h | h | h | h | h | h
    · simp at hlow
    · omega
    · simp [storedName_of_out (.inl h)] at hname
    · simp [storedName_of_out (.inr h)] at hname
    · simp [boolOfCode_of_high h] at hshown
    · omega
    · omega
  · rfl

theorem carrySetHouse_of_range {house len shown games : Byte} {name : List Byte} {total : BitVec 24} (hhouse : house ≠ 0)
    (hhouseHigh : house.toNat ≤ 6) (hlen : len ≠ 0) (hlenHigh : len.toNat ≤ 10) (hshown : shown.toNat ≤ 1) (hlow : -99999 ≤ total.toInt)
    (hhigh : total.toInt ≤ 999999) (s : State) : carrySetHouse house len name shown total games s =
      s.storeHouse house.toNat
        ⟨(name.take len.toNat).map fun c => if 0x20 ≤ c.toNat ∧ c.toNat ≤ 0x7E then c else 0x20, shown = 1, total.toInt, games.toNat⟩ := by
  have hpos : 1 ≤ house.toNat := by bv_omega
  have hok : (decide (1 ≤ house.toNat) && decide (house.toNat ≤ 6) && houseTotalOk (totalOf total)) = true := by
    simp [hpos, hhouseHigh, houseTotalOk, totalOf, hlow, hhigh]
  simp only [carrySetHouse, storedName_of_range hlen hlenHigh, boolOfCode_of_low hshown, hok, if_true]
  rfl

theorem CommitMethod.ofCode_code (m : CommitMethod) : CommitMethod.ofCode m.code = some m := by cases m <;> rfl

theorem CommitMethod.ofCode_of_high {b : Byte} (h : 1 < b.toNat) : CommitMethod.ofCode b = none := by
  unfold CommitMethod.ofCode
  rw [if_neg (by rintro rfl; simp at h), if_neg (by rintro rfl; simp at h)]

/-- The playing teams of a house, by their places in the records from 0 (R156, R161). -/
def Standings.memberPlaces (x : Standings) (h : Nat) : List Nat :=
  (List.range 24).filter fun i => (x.teamAt (i + 1)).playing && (x.teamAt (i + 1)).house = h

theorem Standings.members_eq (x : Standings) (h : Nat) : x.members h = (x.memberPlaces h).map (· + 1) := by
  have hteams : teamNumbers = (List.range 24).map (· + 1) := rfl
  rw [Standings.members, Standings.playingTeams, List.filter_filter, hteams, List.filter_map, Standings.memberPlaces]
  congr 1
  refine List.filter_congr fun i hi => ?_
  have hnumber : isTeamNumber (i + 1) = true := (isTeamNumber_iff _).mpr ⟨by omega, by have := List.mem_range.mp hi; omega⟩
  simp [Standings.isPlaying, hnumber, Bool.and_comm]

theorem Standings.houseSum_eq (x : Standings) (m : CommitMethod) (h : Nat) :
    x.houseSum m h = ((x.memberPlaces h).map fun i => x.contribution m (i + 1)).sum := by
  rw [Standings.houseSum, x.members_eq, List.map_map]
  rfl

theorem houseNumbers_eq : houseNumbers = (List.range 6).map (· + 1) := rfl

theorem Standings.committed_houseAt (x : Standings) (m : CommitMethod) {h : Nat} (hlow : 1 ≤ h) (hhigh : h ≤ 6) :
    (x.committed m).houseAt h = x.houseAfter m h := by
  have hindex : h - 1 < 6 := by omega
  simp [Standings.committed, Standings.houseAt, houseNumbers_eq, hindex, Nat.sub_add_cancel hlow]

theorem Standings.committed_teamAt {x : Standings} (hlen : x.teams.length = 24) (m : CommitMethod) {n : Nat} (hn : isTeamNumber n = true) :
    (x.committed m).teamAt n = (x.teamAt n).cleared := by
  obtain ⟨hlow, hhigh⟩ := (isTeamNumber_iff n).mp hn
  have hindex : n - 1 < x.teams.length := by omega
  simp [Standings.committed, Standings.cleared, Standings.teamAt, hindex]

theorem Standings.contributing_eq (x : Standings) : x.contributing =
    (List.range 24).countP fun i => (x.teamAt (i + 1)).playing && 1 ≤ (x.teamAt (i + 1)).house && (x.teamAt (i + 1)).house ≤ 6 := by
  rw [Standings.contributing, ← List.countP_eq_length_filter, x.countP_playingTeams]
  simp [Bool.and_assoc]

/-- Places are counted over the shown houses (R159). -/
theorem Standings.countP_shownHouses (x : Standings) (p : Nat → Bool) :
    x.shownHouses.countP p = (List.range 6).countP fun i => (x.houseAt (i + 1)).shown && p (i + 1) := by
  rw [Standings.shownHouses, List.countP_filter, houseNumbers_eq, List.countP_map]
  refine List.countP_congr fun i _ => ?_
  simp [and_comm]

theorem Standings.houseOrder_of_shown {x : Standings} {h : Nat} (hshown : (x.houseAt h).shown = true) :
    x.houseOrder h = some (1 + housesAhead x h) := by
  rw [Standings.houseOrder, if_pos hshown, x.countP_shownHouses]
  rfl

/-- Settles O56: the commands of the house cup, and the places and contributions. -/
theorem houseCupCommands : Obligations.HouseCupCommands := by
  refine ⟨fun house len shown games name total s hw hname => ⟨fun hout => ?_, ?_⟩, fun ps s hw => ⟨fun hout => ?_, fun hok => ?_⟩,
    fun b s hw => ⟨fun hstate => ?_, fun hfrozen hlive hboard => ?_, fun hfrozen hlive hboard hhigh => ?_,
      fun m hfrozen hlive hboard hcode hlen => ?commit⟩,
    fun x h hlow hhigh => ⟨fun hshown => ?_, fun hshown htie => ?_, fun hshown htie => ?_⟩, fun m n hs => ?_, fun x t => ⟨rfl, fun p hp => ?_⟩⟩
  · exact replies_refuse rfl hw (carrySetHouse_of_out hout s)
  · rintro n y hhouse hhouseHigh hlen hlenHigh hshown hlow hhigh rfl rfl
    refine replies_done rfl hw ?_
    rw [carrySetHouse_of_range hhouse hhouseHigh hlen hlenHigh hshown hlow hhigh, ← form1?_eq]
    rfl
  · obtain ⟨p, hp, hhigh⟩ := hout
    have hnot : ¬(ps.all fun p => decide (p.toNat ≤ 100)) = true := fun hall =>
      absurd (of_decide_eq_true (List.all_eq_true.mp hall p hp)) (not_le.mpr hhigh)
    exact replies_refuse rfl hw (if_neg hnot)
  · exact replies_done rfl hw (if_pos (List.all_eq_true.mpr fun p hp => decide_eq_true (hok p hp)))
  · refine replies_refuse rfl hw ?_
    rcases hstate with h | h
    · simp [carryCommitGame, h]
    · cases hf : s.standings.frozen <;> simp [carryCommitGame, h, hf]
  · exact replies_refuse rfl hw (by simp [carryCommitGame, hfrozen, hlive, hboard])
  · exact replies_refuse rfl hw (by simp [carryCommitGame, hfrozen, hlive, hboard, CommitMethod.ofCode_of_high hhigh])
  case commit =>
    have hhouse (h : Nat) (hlow : 1 ≤ h) (hhigh : h ≤ 6) := s.standings.committed_houseAt m hlow hhigh
    refine ⟨(s.commit m).state, s.standings.memberPlaces, rfl, replies_done rfl hw ?_, fun n hn => Standings.committed_teamAt hlen m hn, rfl, rfl,
      rfl, rfl, fun h hlow hhigh => ?_, ?_, rfl, rfl, rfl, rfl, rfl⟩
    · have htotals : houseNumbers.map (fun h => formTotal (s.standings.houseAfter m h).total) = (List.range 6).map fun i =>
          bytesOf 3 (BitVec.ofInt 24 ((s.commit m).state.standings.houseAt (i + 1)).total).toNat := by
        rw [houseNumbers_eq, List.map_map]
        refine List.map_congr_left fun i hi => ?_
        have hi := List.mem_range.mp hi
        show _ = bytesOf 3 (BitVec.ofInt 24 ((s.standings.committed m).houseAt (i + 1)).total).toNat
        rw [hhouse (i + 1) (by omega) (by omega)]
        rfl
      rw [← htotals, ← hcode]
      simp only [carryCommitGame, hfrozen, hlive, hboard, CommitMethod.ofCode_code]
      rfl
    · show (s.standings.committed m).houseAt h = _
      rw [hhouse h hlow hhigh, Standings.houseAfter, Standings.totalAfter, s.standings.houseSum_eq, s.standings.members_eq]
      simp only [List.map_eq_nil_iff]
    · have hchanges : houseNumbers.map (s.standings.houseChange m) = (List.range 6).map fun i =>
          ⟨((s.standings.memberPlaces (i + 1)).map fun j => s.standings.contribution m (j + 1)).sum,
            ((s.commit m).state.standings.houseAt (i + 1)).total - (s.standings.houseAt (i + 1)).total,
            ((s.commit m).state.standings.houseAt (i + 1)).total, ((s.commit m).state.standings.houseAt (i + 1)).games⟩ := by
        rw [houseNumbers_eq, List.map_map]
        refine List.map_congr_left fun i hi => ?_
        have hi := List.mem_range.mp hi
        have hafter : (s.commit m).state.standings.houseAt (i + 1) = s.standings.houseAfter m (i + 1) :=
          hhouse (i + 1) (by omega) (by omega)
        rw [hafter, ← Standings.houseSum_eq]
        rfl
      rw [← hchanges, ← Standings.contributing_eq]
      rfl
  · cases htie : x.tie <;> simp [Standings.place, Standings.houseOrder, htie, hshown]
  · simp only [Standings.place, htie, Standings.houseOrder_of_shown hshown]
  · simp only [Standings.place, htie, hshown, if_true, x.countP_shownHouses]
  · rw [Event.values]
    simp [form1_eq, formTotal, sentTotal]
  · simp only [Standings.contribution, hp]
    split <;> rfl

end Sys2Proof.Machine
end

section
/-! PROOFS. The control link: bytes and frames received, frames that arrive and wait, what is sent, and how an event is
flagged and queued. -/

namespace Sys2Proof.Machine

/-! ### A byte received -/

theorem State.linkByte_of_listen {s : State} (b : Byte) (h : s.link.mode = .listen) : s.linkByte b = s.listenByte b := by
  rw [State.linkByte, if_pos h]

theorem State.linkByte_of_deaf {s : State} (b : Byte) (h : s.link.mode ≠ .listen) (hdeaf : s.link.deaf = true) :
    s.linkByte b = s := by
  rw [State.linkByte, if_neg h, if_pos hdeaf]

theorem State.linkByte_of_outside {s : State} (b : Byte) (h : s.link.mode ≠ .listen) (hdeaf : s.link.deaf = false)
    (hr : s.link.receiving = none) : s.linkByte b = s.linkByteOutside b := by
  rw [State.linkByte, if_neg h, if_neg (by simp [hdeaf]), hr]

theorem State.linkByte_of_inside {s : State} {r : List Byte} (b : Byte) (h : s.link.mode ≠ .listen)
    (hdeaf : s.link.deaf = false) (hr : s.link.receiving = some r) (hgap : s.link.gap ≤ 20) :
    s.linkByte b = s.linkByteInside r b := by
  rw [State.linkByte, if_neg h, if_neg (by simp [hdeaf]), hr]
  exact if_neg (Nat.not_lt.mpr hgap)

theorem State.linkByte_of_late {s : State} {r : List Byte} (b : Byte) (h : s.link.mode ≠ .listen)
    (hdeaf : s.link.deaf = false) (hr : s.link.receiving = some r) (hgap : 20 < s.link.gap) :
    s.linkByte b = (s.linkGapAbandon r).linkByteOutside b := by
  rw [State.linkByte, if_neg h, if_neg (by simp [hdeaf]), hr]
  exact if_pos hgap

theorem Link.deaf_iff (l : Link) :
    l.deaf = true ↔ l.mode = .singleWire ∧ (l.line ≠ .free ∨ (0 < l.fetchLeft ∧ l.reply = none)) := by
  simp [Link.deaf]

/-- A frame is being received, with these bytes after its start byte. -/
def State.inFrame (s : State) (r : List Byte) : State := s.setLink { s.link with receiving := some r, gap := 0 }

theorem State.linkByteOutside_start (s : State) : s.linkByteOutside 0xC3 = s.inFrame [] := if_pos rfl

/-- Before a frame's check byte the bytes received complete no frame (R183). -/
theorem ofReceived_of_short {r : List Byte} {b : Byte} (hlen : ∀ n q, r = n :: q → q.length < n.toNat) :
    LinkFrame.ofReceived (r ++ [b]) = none := by
  rcases r with _ | ⟨n, _ | ⟨k, q⟩⟩
  · rfl
  · have hn := hlen n [] rfl
    exact if_neg (show ¬0 = n.toNat from Nat.ne_of_lt hn)
  · have hn := hlen n (k :: q) rfl
    have hlength : (q ++ [b]).length = q.length + 1 := List.length_append
    exact if_neg (show ¬(q ++ [b]).length = n.toNat by simp only [List.length_cons] at hn; omega)

theorem State.linkByteInside_of_short (s : State) {r : List Byte} {b : Byte} (hfirst : r = [] → b ≠ 0 ∧ b.toNat ≤ 63)
    (hlen : ∀ n q, r = n :: q → q.length < n.toNat) : s.linkByteInside r b = s.inFrame (r ++ [b]) := by
  have hkept : ¬(decide (r = []) && (decide (b = 0) || decide (63 < b.toNat))) = true := by
    simp only [Bool.and_eq_true, Bool.or_eq_true, decide_eq_true_eq]
    rintro ⟨hr, hb⟩
    obtain ⟨hzero, hle⟩ := hfirst hr
    exact hb.elim hzero (Nat.not_lt.mpr hle)
  rw [State.linkByteInside, if_neg hkept, ofReceived_of_short hlen]
  rfl

theorem State.linkByteInside_of_length (s : State) {n : Byte} (hn : n = 0 ∨ 63 < n.toNat) :
    s.linkByteInside [] n = s.linkWaits.raise (.linkFault .length none) := by
  rw [State.linkByteInside, if_pos (by simpa using hn)]

theorem serialFor_linkFault (s : State) (c : LinkFaultReason) (k : Option Byte) : s.serialFor (.linkFault c k) = none := rfl

theorem State.linkGapAbandon_eq (s : State) (r : List Byte) :
    s.linkGapAbandon r = (s.setLink { s.link with receiving := none, gap := 0 }).raise (.linkFault .gap r[1]?) := by
  have hkind : kindReceived r = r[1]? := by rcases r with _ | ⟨n, _ | ⟨k, q⟩⟩ <;> rfl
  rw [State.linkGapAbandon, hkind]
  rfl

/-! ### What a report does to the link (R189, R191) -/

theorem Link.note_flags (l : Link) (r : Report) : (l.note r).flags = l.flags ||| BitVec.twoPow 12 r.event.cls.place := by
  unfold Link.note Link.enqueue
  dsimp only
  split_ifs <;> rfl

/-- A report joins whatever frame the link is receiving: it reads and writes the flags, the queue and its marks alone. -/
theorem Link.note_receiving (l : Link) (x : Option (List Byte)) (g : Nat) (r : Report) :
    ({ l with receiving := x, gap := g } : Link).note r = { l.note r with receiving := x, gap := g } := by
  unfold Link.note Link.enqueue
  dsimp only
  split_ifs <;> rfl

/-- A report changes nothing of what the link is to carry out next (R184, R194). -/
theorem Link.note_front (l : Link) (r : Report) :
    (l.note r).mode = l.mode ∧ (l.note r).carriedOut = l.carriedOut ∧ (l.note r).showReset = l.showReset ∧
      (l.note r).buffer = l.buffer := by
  unfold Link.note Link.enqueue
  dsimp only
  split_ifs <;> exact ⟨rfl, rfl, rfl, rfl⟩

/-- A late byte: the frame in part goes with an event, and the byte may begin another (R183). -/
theorem State.linkGapAbandon_outside (s : State) (r : List Byte) (b : Byte) :
    (s.linkGapAbandon r).linkByteOutside b = s.setLink
      { s.link.note ⟨none, .linkFault .gap r[1]?⟩ with receiving := if b = 0xC3 then some [] else none, gap := 0 } := by
  rw [State.linkGapAbandon_eq, State.raise, serialFor_linkFault]
  show State.linkByteOutside (s.setLink (Link.note { s.link with receiving := none, gap := 0 } _)) b = _
  rw [Link.note_receiving]
  unfold State.linkByteOutside
  by_cases hb : b = linkStart
  · subst hb; rfl
  · rw [if_neg hb, if_neg (show ¬b = 0xC3 from hb)]

/-- Settles O20: by the link's mode, whether it hears, and where in a frame the byte comes. -/
theorem linkBytesSelectTheModeAndFormFrames : Obligations.LinkBytesSelectTheModeAndFormFrames := by
  have hstep : ∀ (i : Instr) (b : Byte) (s : State), i = .modeByte b ∨ i = .linkByteReceived b →
      exec i s = .next (s.linkByte b) := by rintro i b s (rfl | rfl) <;> rfl
  refine ⟨fun i b s hi hmode => ?_, fun i b s hi hmode => ⟨s.link.deaf_iff, fun hdeaf => ?_, fun hdeaf hr => ?_,
    fun r hdeaf hr hgap hfirst hlen => ?_, fun r hdeaf hr hgap => ?_⟩⟩ <;> rw [hstep i b s hi]
  · rw [State.linkByte_of_listen b hmode]
    rfl
  · rw [State.linkByte_of_deaf b hmode hdeaf]
  · rw [State.linkByte_of_outside b hmode hdeaf hr]
    rfl
  · rw [State.linkByte_of_inside b hmode hdeaf hr hgap, State.linkByteInside_of_short s hfirst hlen]
    rfl
  · rw [State.linkByte_of_late b hmode hdeaf hr hgap, State.linkGapAbandon_outside]
    obtain ⟨_, _, _, hbuffer⟩ := s.link.note_front ⟨none, .linkFault .gap r[1]?⟩
    refine ⟨_, rfl, rfl, rfl, hbuffer, ?_, rfl, rfl, rfl, rfl⟩
    show (s.link.note _).flags.getLsbD 11 = true
    rw [Link.note_flags]
    simp [Event.cls, EventClass.place]

/-! ### The bytes of a frame received one after another (R183) -/

theorem State.linkBytes_inFrame {s : State} (hmode : s.link.mode ≠ .listen) (hdeaf : s.link.deaf = false) (n : Byte)
    (p q : List Byte) (h : p.length + q.length ≤ n.toNat) :
    (s.inFrame (n :: p)).linkBytes q = s.inFrame (n :: (p ++ q)) := by
  induction q generalizing p with
  | nil => rw [List.append_nil]; rfl
  | cons b q ih =>
    simp only [List.length_cons] at h
    have hstep : (s.inFrame (n :: p)).linkByte b = s.inFrame (n :: (p ++ [b])) := by
      rw [State.linkByte_of_inside (s := s.inFrame (n :: p)) b hmode hdeaf rfl (Nat.zero_le 20),
        State.linkByteInside_of_short _ (by simp) (by rintro _ _ ⟨⟩; omega)]
      rfl
    show (State.linkByte _ b).linkBytes q = _
    rw [hstep, ih _ (by rw [List.length_append, List.length_singleton]; omega), List.append_assoc, List.singleton_append]

theorem State.linkByte_length {s : State} (hmode : s.link.mode ≠ .listen) (hdeaf : s.link.deaf = false) {n : Byte}
    (hn : n ≠ 0) (hle : n.toNat ≤ 63) : (s.inFrame []).linkByte n = s.inFrame [n] := by
  rw [State.linkByte_of_inside (s := s.inFrame []) n hmode hdeaf rfl (Nat.zero_le 20),
    State.linkByteInside_of_short _ (fun _ => ⟨hn, hle⟩) (by simp)]
  rfl

/-- A whole frame received from its start byte on joins the buffer, or is discarded where two are there (R183, R184). -/
theorem State.receiveFrame_of_outside {s : State} {f : LinkFrame} (hf : f.wellFormed = true) (hmode : s.link.mode ≠ .listen)
    (hdeaf : s.link.deaf = false) (hr : s.link.receiving = none) : s.receiveFrame f = s.linkWaits.frameComplete f := by
  have hshort : f.payload.length ≤ 62 := of_decide_eq_true hf
  have hlength := LinkFrame.toNat_length hshort
  have hstart : s.linkByte linkStart = s.inFrame [] := by
    rw [State.linkByte_of_outside _ hmode hdeaf hr]
    exact s.linkByteOutside_start
  have hfirst : (s.inFrame []).linkByte f.length = s.inFrame [f.length] :=
    State.linkByte_length hmode hdeaf (by intro h0; rw [h0] at hlength; simp at hlength) (by omega)
  have hlast : (s.inFrame (f.length :: f.kind :: f.payload)).linkByte f.check = s.linkWaits.frameComplete f := by
    rw [State.linkByte_of_inside (s := s.inFrame _) f.check hmode hdeaf rfl (Nat.zero_le 20), State.linkByteInside,
      if_neg (by simp), List.cons_append, List.cons_append, LinkFrame.ofReceived_bytes hshort]
    rfl
  have hbytes : s.link.bytesToCome f.bytes = linkStart :: f.length :: ((f.kind :: f.payload) ++ [f.check]) := by
    rw [Link.bytesToCome, hr]
    rfl
  rw [State.receiveFrame, if_neg hmode, hbytes]
  show (((s.linkByte linkStart).linkByte f.length).linkBytes _) = _
  rw [hstart, hfirst]
  unfold State.linkBytes
  rw [List.foldl_append]
  have hmiddle := State.linkBytes_inFrame hmode hdeaf f.length [] (f.kind :: f.payload) (by simp [hlength])
  unfold State.linkBytes at hmiddle
  rw [hmiddle]
  exact hlast

/-- Settles O21: a whole frame by its bytes, a bad length at its second byte, a gap by its measure. -/
theorem framesJoinTheBufferOrAreAbandoned : Obligations.FramesJoinTheBufferOrAreAbandoned := by
  refine ⟨fun f s hf hmode hdeaf hr => ?_, fun n s hn hmode hdeaf hr => ?_, fun r s hr hgap => ?_⟩
  · show Host.Outcome.next (s.receiveFrame f) = _
    rw [State.receiveFrame_of_outside hf hmode hdeaf hr]
    rfl
  · have hlast : ∀ u : State, u.link.mode ≠ .listen → u.link.deaf = false → u.link.receiving = some [] → u.link.gap ≤ 20 →
        u.linkByte n = u.linkWaits.raise (.linkFault .length none) := by
      intro u hmode hdeaf hr hgap
      rw [State.linkByte_of_inside n hmode hdeaf hr hgap, State.linkByteInside_of_length u hn]
    show Host.Outcome.next (if s.link.mode = .listen then s else s.linkBytes (s.link.bytesToCome [linkStart, n])) = _
    rw [if_neg hmode]
    refine congrArg Host.Outcome.next ?_
    rcases hr with hr | ⟨hr, hgap⟩
    · rw [Link.bytesToCome, hr]
      show (s.linkByte linkStart).linkByte n = _
      rw [State.linkByte_of_outside _ hmode hdeaf hr]
      exact hlast (s.inFrame []) hmode hdeaf rfl (Nat.zero_le 20)
    · have hcome : s.link.bytesToCome [linkStart, n] = [n] := by
        rw [Link.bytesToCome, hr]
        simp [stillToCome]
      rw [hcome]
      exact hlast s hmode hdeaf hr hgap
  · show Host.Outcome.next _ = _
    rw [hr]
    refine congrArg Host.Outcome.next ?_
    exact (if_pos (show linkGapLimit ≤ s.link.gap from hgap)).trans (s.linkGapAbandon_eq r)

/-! ### A desk command whose frame arrives in its own step (R184, R194) -/

theorem State.waitingCommand_eq (s : State) : s.waitingCommand =
    if s.link.mode = .listen ∨ s.link.carriedOut = true ∨ s.link.showReset = .due then none
    else s.link.buffer.head?.bind LinkFrame.command := by
  rw [State.waitingCommand, State.frontFrame]
  by_cases h : s.link.mode = .listen ∨ s.link.carriedOut = true ∨ s.link.showReset = .due
  · rw [if_pos h, if_pos (by simpa [or_assoc] using h)]
    rfl
  · rw [if_neg h, if_neg (by simpa [or_assoc] using h)]

theorem carryOf_of_kindByte {i : Instr} {kind : Byte} (h : i.kindByte = some kind) : ∃ carry, carryOf i = some carry := by
  cases i <;> cases h <;> exact ⟨_, rfl⟩

theorem State.bring_of_not_waiting {s : State} {i : Instr} {f : LinkFrame} (h : s.waitingCommand ≠ some i)
    (hf : i.frame = some f) : s.bring i = s.receiveFrame f := by
  rw [State.bring, if_neg h, hf]

/-- A frame that comes to an empty buffer stands alone in it. -/
theorem State.linkWaits_frameComplete_of_empty {s : State} (f : LinkFrame) (hr : s.link.receiving = none)
    (hbuffer : s.link.buffer = []) :
    s.linkWaits.frameComplete f = s.setLink { s.link with gap := 0, buffer := [f] } := by
  have hlink : ({ s.link with receiving := none, gap := 0, buffer := s.link.buffer ++ [f] } : Link) =
      { s.link with gap := 0, buffer := [f] } := by rw [hbuffer, ← hr]; rfl
  have hroom : s.linkWaits.link.buffer.length < 2 := by
    show s.link.buffer.length < 2
    rw [hbuffer]
    exact Nat.zero_lt_two
  rw [State.frameComplete, if_pos hroom]
  exact congrArg s.setLink hlink

/-- A frame that joins behind another, or waits for a reply or a show reset, changes nothing of what is to be carried out
next (R184, R194). -/
theorem State.linkWaits_frameComplete_waiting {s : State} (f : LinkFrame)
    (h : s.link.buffer ≠ [] ∨ s.link.carriedOut = true ∨ s.link.showReset = .due) :
    (s.linkWaits.frameComplete f).waitingCommand = s.waitingCommand := by
  have hkept : ∃ b, (s.linkWaits.frameComplete f).link.mode = s.link.mode ∧
      (s.linkWaits.frameComplete f).link.carriedOut = s.link.carriedOut ∧
      (s.linkWaits.frameComplete f).link.showReset = s.link.showReset ∧
      (s.linkWaits.frameComplete f).link.buffer = s.link.buffer ++ b := by
    unfold State.frameComplete
    split
    · exact ⟨[f], rfl, rfl, rfl, rfl⟩
    · obtain ⟨hmode, hcarried, hreset, hbuffer⟩ := s.linkWaits.link.note_front ⟨none, .linkFault .bufferFull (some f.kind)⟩
      exact ⟨[], hmode, hcarried, hreset, by rw [List.append_nil]; exact hbuffer⟩
  obtain ⟨b, hmode, hcarried, hreset, hbuffer⟩ := hkept
  rw [State.waitingCommand_eq, State.waitingCommand_eq, hmode, hcarried, hreset, hbuffer]
  split
  · rfl
  next hfree =>
    rw [not_or, not_or] at hfree
    obtain ⟨_, hout, hdue⟩ := hfree
    obtain ⟨g, rest, hcons⟩ := List.exists_cons_of_ne_nil (h.resolve_right (not_or.mpr ⟨hout, hdue⟩))
    rw [hcons]
    rfl

/-- Settles O22: a desk command brings its frame, which is carried out where it stands at the front. -/
theorem deskFramesArriveAndWait : Obligations.DeskFramesArriveAndWait := by
  refine ⟨State.waitingCommand_eq, fun _ _ => rfl, fun i f s hw hf hmode hdeaf hr => ?_⟩
  obtain ⟨kind, hkind, _⟩ := Option.map_eq_some_iff.mp hf
  obtain ⟨carry, hcarry⟩ := carryOf_of_kindByte hkind
  obtain ⟨hwf, _, hcommand, _⟩ := commandFramesReadBack i f hw hf
  have harrives := State.receiveFrame_of_outside hwf hmode hdeaf hr
  refine ⟨fun hbuffer hcarried hreset => ?_, fun hwait hblocked => ?_⟩
  · have hfront : (s.setLink { s.link with gap := 0, buffer := [f] }).waitingCommand = some i :=
      State.waitingCommand_eq_some.mpr ⟨hmode, hcarried, hreset, f, [], rfl, hcommand⟩
    refine ⟨hfront, ?_⟩
    have hnot : s.waitingCommand ≠ some i := by rw [State.waitingCommand_eq, hbuffer]; split <;> simp
    rw [exec_of_carry hcarry, exec_of_carry hcarry, desk_of_waiting hfront, desk_next, State.bring_of_not_waiting hnot hf,
      harrives, State.linkWaits_frameComplete_of_empty f hr hbuffer, if_pos hfront]
  · have hnot : ¬(s.linkWaits.frameComplete f).waitingCommand = some i := by
      rwa [State.linkWaits_frameComplete_waiting f hblocked]
    rw [exec_of_carry hcarry, desk_next, State.bring_of_not_waiting hwait hf, harrives, if_neg hnot, ← harrives]
    rfl

/-! ### What is sent (R182, R186 to R188, R191) -/

/-- The check byte makes the sum of a sent frame 0 modulo 256 (R196). -/
theorem sentFrame_sum (kind : Byte) (p : List Byte) :
    (p.length + 1 + kind.toNat + (p.map BitVec.toNat).sum + (checkFor kind p).toNat) % 256 = 0 := by
  have h := congrArg BitVec.toNat (frameSum_checkFor kind p)
  rwa [frameSum, BitVec.toNat_ofNat] at h

/-- With room in the queue a report is queued where its class is enabled (R189). -/
theorem Link.note_of_room {l : Link} (r : Report) (h : l.queue.length < 48) : l.note r =
    { l with
      flags := l.flags ||| BitVec.twoPow 12 r.event.cls.place
      queue := if l.mask.getLsbD r.event.cls.place then l.queue ++ [r] else l.queue } := by
  unfold Link.note Link.enqueue
  dsimp only
  rw [if_neg (show ¬queueLimit ≤ l.queue.length from Nat.not_le.mpr h)]
  split_ifs <;> rfl

theorem State.tellOverflow_of_room {s : State} (h : s.link.queue.length < 48) : s.tellOverflow = s.setLink
    { s.link with
      lost := false
      dropped := if s.link.lost = true then 0 else s.link.dropped
      queue := if s.link.lost = true ∧ s.link.mask.getLsbD 11 = true then
        s.link.queue ++ [⟨none, .queueOverflow s.link.dropped⟩] else s.link.queue
      flags := if s.link.lost = true then s.link.flags ||| BitVec.twoPow 12 11 else s.link.flags } := by
  cases hlost : s.link.lost with
  | true =>
    unfold State.tellOverflow State.raise
    rw [if_pos hlost, Link.note_of_room _ h]
    simp only [true_and, if_true]
    rfl
  | false =>
    have hsame : s.tellOverflow = s := if_neg (by rw [hlost]; exact Bool.false_ne_true)
    simp only [hsame, Bool.false_eq_true, false_and, if_false]
    rw [← hlost]
    rfl

theorem Link.fetchedOne_eq (l : Link) : l.fetchedOne =
    { l with
      fetchLeft := l.fetchLeft - 1
      buffer := if l.fetchLeft = 1 then l.buffer.tail else l.buffer
      carriedOut := if l.fetchLeft = 1 then false else l.carriedOut } := by
  unfold Link.fetchedOne
  split
  next h0 =>
    rw [if_neg (by omega), if_neg (by omega), h0, Nat.zero_sub, ← h0]
  · split
    next h1 => rw [h1]; rfl
    · rfl

theorem Link.replySent_eq (l : Link) : l.replySent =
    { l with
      line := .free
      rate := l.newRate.getD l.rate
      newRate := none
      showReset := if l.showReset = .asked then .due else l.showReset
      buffer := if l.fetchLeft = 0 then l.buffer.tail else l.buffer
      carriedOut := if l.fetchLeft = 0 then false else l.carriedOut } := by
  have hreset : l.showReset.afterReply = if l.showReset = .asked then .due else l.showReset := by
    cases l.showReset <;> rfl
  unfold Link.replySent
  dsimp only
  rw [hreset]
  split_ifs <;> rfl

/-- REPORT_SENT (R186, R187, R191): what the step does to the link, with room in the queue for QUEUE OVERFLOW. -/
theorem exec_reportSent {s : State} {r : Report} (hline : s.link.line = .report r) (hroom : s.link.queue.tail.length < 48) :
    exec .reportSent s = .next (s.setLink
      { s.link with
        line := .free
        lost := false
        dropped := if s.link.lost = true then 0 else s.link.dropped
        queue := if s.link.lost = true ∧ s.link.mask.getLsbD 11 = true then
          s.link.queue.tail ++ [⟨none, .queueOverflow s.link.dropped⟩] else s.link.queue.tail
        flags := if s.link.lost = true then s.link.flags ||| BitVec.twoPow 12 11 else s.link.flags
        fetchLeft := s.link.fetchLeft - 1
        buffer := if s.link.fetchLeft = 1 then s.link.buffer.tail else s.link.buffer
        carriedOut := if s.link.fetchLeft = 1 then false else s.link.carriedOut }) := by
  show Host.Outcome.next _ = _
  rw [hline]
  dsimp only
  have htell := State.tellOverflow_of_room (s := s.setLink { s.link with line := .free, queue := s.link.queue.tail }) hroom
  rw [htell, Link.fetchedOne_eq]
  rfl

/-- Settles O25: by what the line carries. -/
theorem repliesAndReportsAreSent : Obligations.RepliesAndReportsAreSent := by
  refine ⟨fun r s h => ?_, fun r s h => ?_, fun r q s hqueue hline hreply => ?_, fun s h => ?_,
    fun r p hp => ⟨_, by rw [hp]; rfl, sentFrame_sum 0xA5 p⟩, fun r s hline hne hlen => ?_⟩
  · show Host.Outcome.next _ = _
    rw [h]
  · show Host.Outcome.next _ = _
    rw [h]
    exact congrArg (fun l => Host.Outcome.next (s.setLink l)) s.link.replySent_eq
  · have hstep : exec .reportSendBegin s =
        .next (if s.link.mayReport then s.setLink { s.link with line := .report r } else s) := by
      show Host.Outcome.next _ = _
      rw [hqueue]
    rw [hstep]
    refine ⟨fun hm hh => ?_, fun hm hh => ?_, fun hm hh => ?_, fun hm hh => ?_⟩ <;>
      simp [Link.mayReport, hline, hreply, hm, hh]
  · exact congrArg Host.Outcome.next (if_pos h)
  · have hroom : s.link.queue.tail.length < 48 := by
      have := List.length_pos_of_ne_nil hne
      rw [List.length_tail]
      omega
    refine ⟨_, exec_reportSent hline hroom, rfl, rfl, fun hlost => if_pos hlost, rfl, rfl, rfl, rfl, rfl, rfl, rfl, rfl, rfl, rfl,
      rfl, rfl, rfl, rfl⟩

/-! ### Events (R189, R191, R196) -/

/-- The classes whose events always carry the round serial (R48, R111, R120, R125, R128). -/
theorem serialRule_always {e : Event} (h : e.cls ∈ [EventClass.round, .floor, .verdict, .timer, .tally]) :
    e.serialRule = .always := by
  cases e <;> first | rfl | simp [Event.cls] at h

/-- The classes whose events never carry the round serial. -/
theorem serialRule_never {e : Event} (h : e.cls ∈ [EventClass.board, .roster, .list, .link]) : e.serialRule = .never := by
  cases e <;> first | rfl | simp [Event.cls] at h

/-- A CLAIM event carries the round serial always, or while a round is live (R56, R57, R111). -/
theorem serialRule_claim {e : Event} (h : e.cls = .claim) : e.serialRule = .always ∨ e.serialRule = .whenLive := by
  cases e <;> first | exact .inl rfl | exact .inr rfl | simp [Event.cls] at h

theorem Link.note_of_masked {l : Link} {r : Report} (h : l.mask.getLsbD r.event.cls.place = false) :
    l.note r = { l with flags := l.flags ||| r.event.cls.bit } := by
  rw [Link.note]
  exact if_neg (by rw [h]; exact Bool.false_ne_true)

/-- A report for a full queue is counted as lost (R191). -/
theorem Link.note_of_full {l : Link} {r : Report} (h : l.mask.getLsbD r.event.cls.place = true) (hfull : 48 ≤ l.queue.length) :
    l.note r = { l with flags := l.flags ||| r.event.cls.bit, lost := true, dropped := bump 255 l.dropped } := by
  rw [Link.note]
  exact (if_pos h).trans (if_pos hfull)

/-- Settles O26: the serial by the event's class, the queue by the mask and the room left. -/
theorem eventsAreFlaggedAndQueued : Obligations.EventsAreFlaggedAndQueued := by
  refine ⟨rfl, fun e s => ⟨fun h => ?_, fun h => ?_, fun h hlive => ?_, ?_, ?_, ?_, ?_⟩,
    fun r p hp => ⟨_, by rw [hp]; rfl, sentFrame_sum 0xA6 p⟩, fun e s => ⟨Link.note_flags _ _, fun hm => ?_, fun hm hroom => ?_,
      fun hm hfull => ?_⟩⟩
  · rw [State.serialFor, serialRule_always h]
  · rw [State.serialFor, serialRule_never h]
  · rcases serialRule_claim h with hr | hr <;> simp [State.serialFor, hr, hlive]
  · rintro n x rfl hlive
    simp [State.serialFor, Event.serialRule, hlive]
  · rintro n x rfl hlive
    simp [State.serialFor, Event.serialRule, hlive]
  · rintro h rfl
    rfl
  · rintro t q v a d n c k m p r rfl
    cases q <;> rfl
  · show (s.link.note _).queue = _ ∧ (s.link.note _).lost = _ ∧ (s.link.note _).dropped = _
    rw [Link.note_of_masked (by exact hm)]
    exact ⟨rfl, rfl, rfl⟩
  · show (s.link.note _).queue = _ ∧ (s.link.note _).lost = _
    rw [Link.note_of_room _ hroom]
    exact ⟨if_pos hm, rfl⟩
  · show (s.link.note _).queue = _ ∧ (s.link.note _).lost = _ ∧ (s.link.note _).dropped = _
    rw [Link.note_of_full (by exact hm) hfull]
    exact ⟨rfl, rfl, rfl⟩

end Sys2Proof.Machine
end

section
/-! PROOFS. The two resets: every unit at its reset value after a hard reset, and what the show reset keeps of each unit. -/

namespace Sys2Proof.Machine

/-! ### The hard reset (R66, R113, R115, R116, R164, R180, R195) -/

theorem isTeamNumber_bounds {n : Nat} (h : isTeamNumber n = true) : 1 ≤ n ∧ n ≤ 24 := by
  simpa [isTeamNumber, teamCount] using h

theorem State.hardReset_lineAt (s : State) {n : Nat} (h : isTeamNumber n = true) : s.hardReset.lineAt n = LineRecord.reset := by
  have := isTeamNumber_bounds h
  exact List.getD_replicate _ (show n - 1 < 24 by omega)

theorem Board.reset_panelAt {a : Nat} (h : a ≤ 24) : Board.reset.panelAt a = ⟨none, .present, false, 0, false⟩ :=
  List.getD_replicate _ (by omega)

/-- No team is playing after a hard reset, so its panel's target is blank (R153, R166, R167). -/
theorem State.hardReset_teamTarget (s : State) {n : Nat} (h : isTeamNumber n = true) :
    s.hardReset.teamTarget n = ⟨none, none, false⟩ := by
  have hbounds := isTeamNumber_bounds h
  have hpanel : s.hardReset.board.panelAt n = ⟨none, .present, false, 0, false⟩ := Board.reset_panelAt hbounds.2
  have hplaying : s.hardReset.standings.isPlaying n = false :=
    Standings.isPlaying_of_not_playing (Standings.reset_teamAt_playing n)
  rw [State.teamTarget, State.liveTeamImage, hpanel, hplaying]
  rfl

theorem Standings.reset_teamLine (k : Nat) : Standings.reset.teamLine k = none := by
  have hfind : Standings.reset.teamAtPosition k = none := by
    rw [Standings.teamAtPosition, List.find?_eq_none]
    intro n _
    rw [Standings.position_of_not_playing (Standings.reset_teamAt_playing n)]
    simp
  rw [Standings.teamLine, hfind]
  rfl

theorem State.hardReset_targetLine (s : State) {k : Nat} (h : k ∈ lineNumbers) : s.hardReset.targetLine k = none := by
  obtain ⟨i, hi, rfl⟩ := List.mem_map.mp h
  have hi := List.mem_range.mp hi
  have hheld : s.hardReset.board.lineHeld.getD (i + 1 - 1) false = false := List.getD_replicate _ (by omega)
  have hlines : s.hardReset.standings.lines s.hardReset.board.mode = lineNumbers.map Standings.reset.teamLine := rfl
  rw [State.targetLine, hheld, hlines, if_neg (by simp), List.getD_eq_getElem?_getD, List.getElem?_map]
  cases lineNumbers[i + 1 - 1]? with
  | none => rfl
  | some k => exact Standings.reset_teamLine k

theorem State.hardReset_leaderTarget (s : State) :
    s.hardReset.leaderTarget = ⟨.teams, List.replicate 8 none, none, none⟩ := by
  have hlines : lineNumbers.map s.hardReset.targetLine = List.replicate 8 none := by
    rw [List.map_congr_left fun k hk => s.hardReset_targetLine hk]
    rfl
  rw [State.leaderTarget, hlines]
  rfl

theorem State.hardReset_dirty (s : State) {a : Nat} (h : a ≤ 24) : s.hardReset.dirty a = true := by
  have hpanel : s.hardReset.board.panelAt a = ⟨none, .present, false, 0, false⟩ := Board.reset_panelAt h
  rw [State.dirty, hpanel]
  simp

/-- The pointer is 24 after a hard reset, so refresh begins at address 0 (R168, R180). -/
theorem State.hardReset_refreshChoice (s : State) : s.hardReset.refreshChoice = some 0 := by
  have hpanel : s.hardReset.board.panelAt 0 = ⟨none, .present, false, 0, false⟩ := Board.reset_panelAt (Nat.zero_le 24)
  have hwants : s.hardReset.wantsRefresh 0 = true := by
    rw [State.wantsRefresh, s.hardReset_dirty (Nat.zero_le 24), hpanel]
    rfl
  have hrange : List.range 25 = 0 :: (List.range 24).map Nat.succ := List.range_succ_eq_map
  have hpointer : s.hardReset.board.pointer = 24 := rfl
  rw [State.refreshChoice, hrange, List.map_cons, hpointer]
  exact List.find?_cons_of_pos hwants

/-- Settles O18: by the reset value of each unit. -/
theorem hardResetOfTheOtherUnits : Obligations.HardResetOfTheOtherUnits := by
  intro s
  refine ⟨s.hardReset, exec_hardReset s, fun n hn => ?_, rfl, rfl, rfl, rfl, rfl, rfl, rfl, rfl, rfl, rfl, rfl, rfl, rfl,
    fun h hh => ?_, rfl, fun a ha => ?_, fun n hn => s.hardReset_teamTarget hn, s.hardReset_leaderTarget, rfl, rfl, rfl, rfl,
    rfl, rfl, s.hardReset_refreshChoice, rfl, rfl, rfl, rfl, rfl, rfl, rfl, rfl, rfl, rfl, rfl⟩
  · rw [s.hardReset_lineAt hn]
    exact ⟨rfl, rfl, rfl, rfl, rfl, rfl⟩
  · have hhouse : ∀ g ∈ [1, 2, 3, 4, 5, 6], Standings.reset.houseAt g = HouseRecord.reset ∧ Standings.reset.place g = none := by
      decide
    exact hhouse h hh
  · have hpanel : s.hardReset.board.panelAt a = ⟨none, .present, false, 0, false⟩ := Board.reset_panelAt ha
    rw [hpanel]
    exact ⟨rfl, rfl, rfl, rfl, s.hardReset_dirty ha⟩

/-! ### The show reset (R20, R50, R67, R91, R180, R194) -/

/-- The close of a live round changes the lamps alone of the consoles, and the show reset turns every lamp off (R67). -/
theorem State.abandonForReset_consoles (s : State) : s.abandonForReset.consoles.showReset = s.consoles.showReset := by
  unfold State.abandonForReset
  split <;> rfl

theorem State.abandonForReset_units (s : State) :
    s.abandonForReset.intake = s.intake ∧ s.abandonForReset.standings = s.standings ∧ s.abandonForReset.board = s.board ∧
      s.abandonForReset.engine.serial = s.engine.serial ∧ s.abandonForReset.free = s.free ∧
      s.abandonForReset.pending = s.pending := by
  unfold State.abandonForReset
  split <;> exact ⟨rfl, rfl, rfl, rfl, rfl, rfl⟩

theorem State.abandonForReset_slotAt (s : State) (h : s.list.slots.length = 128) (k : Fin 128) :
    (s.abandonForReset.slotAt k).setup = (s.slotAt k).setup ∧
      (s.abandonForReset.slotAt k).result =
        if s.live = true ∧ k = s.context.slot then s.resultOf .abandoned none else (s.slotAt k).result := by
  unfold State.abandonForReset
  by_cases hlive : s.live = true
  · rw [if_pos hlive, State.closeRound_slots _ _ _ _ h]
    by_cases hk : k = s.context.slot
    · rw [if_pos hk, if_pos ⟨hlive, hk⟩, hk]
      exact ⟨rfl, rfl⟩
    · rw [if_neg hk, if_neg fun hc => hk hc.2]
      exact ⟨rfl, rfl⟩
  · rw [if_neg hlive, if_neg fun hc => hlive hc.1]
    exact ⟨rfl, rfl⟩

theorem State.abandonForReset_link_of_live {s : State} (h : s.live = true) :
    s.abandonForReset.link = s.link.note (closeReport s .abandoned none) := by
  rw [State.abandonForReset, if_pos h]
  exact s.closeRound_tells .abandoned none

theorem State.abandonForReset_link_of_not_live {s : State} (h : s.live = false) : s.abandonForReset.link = s.link := by
  rw [State.abandonForReset, if_neg (by rw [h]; exact Bool.false_ne_true)]

/-- The show reset replaces each unit by its own show reset (R194). -/
theorem State.showReset_units (s : State) :
    s.showReset.list = s.abandonForReset.list.showReset ∧ s.showReset.engine = s.engine.showReset ∧
      s.showReset.arbiter = Arbiter.reset ∧ s.showReset.consoles = s.consoles.showReset ∧
      s.showReset.intake = s.intake.showReset ∧ s.showReset.answers = Collector.reset ∧
      s.showReset.standings = s.standings.cleared ∧ s.showReset.board = s.board.showReset ∧
      s.showReset.link = s.abandonForReset.link.showResetDone := by
  obtain ⟨hintake, hstandings, hboard, hserial, _⟩ := s.abandonForReset_units
  refine ⟨rfl, ?_, rfl, s.abandonForReset_consoles, congrArg Intake.showReset hintake, rfl,
    congrArg Standings.cleared hstandings, congrArg Board.showReset hboard, rfl⟩
  show (⟨.idle, none, 0, _, 1, none⟩ : Engine) = ⟨.idle, none, 0, _, 1, none⟩
  rw [hserial]

theorem RoundList.showReset_slotAt (s : State) (x : RoundList) (k : Fin 128) (h : s.list = x.showReset) (y : State)
    (hy : y.list = x) : s.slotAt k = { y.slotAt k with owner := .edit } := by
  unfold State.slotAt
  rw [h, hy]
  simp only [RoundList.showReset, List.getD_eq_getElem?_getD, List.getElem?_map]
  cases x.slots[k.val]? <;> rfl

theorem Board.markAll_presence (b : Board) (x : Bool) (a : Nat) : ((b.markAll x).panelAt a).presence = (b.panelAt a).presence := by
  unfold Board.markAll Board.panelAt
  simp only [List.getD_eq_getElem?_getD, List.getElem?_mapIdx]
  cases b.panels[a]? <;> rfl

theorem Board.markAll_false_held (b : Board) {a : Nat} (h : a ≠ 0) : ((b.markAll false).panelAt a).held = false := by
  unfold Board.markAll Board.panelAt
  simp only [List.getD_eq_getElem?_getD, List.getElem?_mapIdx]
  cases b.panels[a]? with
  | none => rfl
  | some r => exact if_neg h

/-- A panel after a show reset keeps its presence and its held mark as `goLive` leaves it (R180). -/
theorem Board.showReset_panelAt (b : Board) (a : Nat) :
    (b.showReset.panelAt a).presence = (b.panelAt a).presence ∧
      (b.showReset.panelAt a).held = ((b.markAll false).panelAt a).held := by
  have hmap : ∀ l : List PanelRecord, ((l.map fun r => { r with shown := none, blinkLeft := 0, blinkOpen := false }).getD a
      ⟨none, .missing, false, 0, false⟩) =
      { l.getD a ⟨none, .missing, false, 0, false⟩ with shown := none, blinkLeft := 0, blinkOpen := false } := by
    intro l
    rw [List.getD_eq_getElem?_getD, List.getD_eq_getElem?_getD, List.getElem?_map]
    cases l[a]? <;> rfl
  rw [← b.markAll_presence false a]
  unfold Board.showReset Board.panelAt
  dsimp only
  rw [hmap]
  exact ⟨rfl, rfl⟩

/-- Settles O19: each unit's own show reset, after the close ABANDONED of a live round. -/
theorem showResetReturnsToTheStart : Obligations.ShowResetReturnsToTheStart := by
  intro s hdue hlen
  obtain ⟨hlist, hengine, harbiter, hconsoles, hintake, hanswers, hstandings, hboard, hlink⟩ := s.showReset_units
  have hquiet : s.abandonForReset.link.quiet = s.link.quiet := by simp
  have hmode := congrArg Link.mode hquiet
  have hrate := congrArg Link.rate hquiet
  have hmask := congrArg Link.mask hquiet
  have hhold := congrArg Link.hold hquiet
  have hbuffer := congrArg Link.buffer hquiet
  have hnot : s.live = false → s.showReset.link = { s.link with flags := 0, showReset := .idle } := fun h => by
    rw [hlink, State.abandonForReset_link_of_not_live h]
    rfl
  have hslot : ∀ k, s.showReset.slotAt k = { s.abandonForReset.slotAt k with owner := .edit } := fun k =>
    RoundList.showReset_slotAt _ _ k hlist s.abandonForReset rfl
  refine ⟨s.showReset, congrArg Host.Outcome.next (if_pos hdue), by rw [hlist]; rfl, by rw [hlist]; rfl, fun k => ?_, hengine,
    harbiter, by rw [hconsoles]; rfl, by rw [hconsoles]; rfl, by rw [hconsoles]; rfl, by rw [hconsoles]; rfl,
    by rw [hconsoles]; rfl, by rw [hintake]; rfl, by rw [hintake]; rfl, by rw [hintake]; rfl, by rw [hintake]; rfl,
    by rw [hintake]; rfl, by rw [hintake]; rfl, by rw [hintake]; rfl, by rw [hintake]; rfl, by rw [hintake]; rfl,
    by rw [hintake]; rfl, hanswers, by rw [hstandings]; rfl, by rw [hboard]; rfl, by rw [hboard]; rfl, by rw [hboard]; rfl,
    by rw [hboard]; rfl, by rw [hboard]; rfl, fun x hx => ?_, fun n hn => ?_, fun r hr => ?_, fun a => ?_, by rw [hboard]; rfl,
    fun h => ?_, fun a m v h => ?_, fun a w v h => ?_, by rw [hlink]; rfl, by rw [hlink]; rfl, by rw [hlink]; exact hmode, by rw [hlink]; exact hrate, by rw [hlink]; exact hmask,
    by rw [hlink]; exact hhold, by rw [hlink]; exact hbuffer,
    fun h => by rw [hnot h]; exact ⟨rfl, rfl, rfl⟩, fun h => ?_, hnot, by simp, by simp⟩
  · obtain ⟨hsetup, hresult⟩ := s.abandonForReset_slotAt hlen k
    rw [hslot k]
    exact ⟨rfl, hsetup, hresult⟩
  · rw [hboard] at hx
    exact List.eq_of_mem_replicate hx
  · have hne : n ≠ 0 := by have := isTeamNumber_bounds hn; omega
    rw [hboard, (s.board.showReset_panelAt n).2, s.board.markAll_false_held hne]
  · rw [hboard] at hr
    obtain ⟨q, _, rfl⟩ := List.mem_map.mp hr
    exact ⟨rfl, rfl, rfl⟩
  · rw [hboard, (s.board.showReset_panelAt a).1]
  · rw [hboard]
    show s.board.chain.voided = _
    rw [h]
    rfl
  · rw [hboard]
    show s.board.chain.voided = _
    rw [h]
    rfl
  · rw [hboard]
    show s.board.chain.voided = _
    rw [h]
    rfl
  · rw [hlink, State.abandonForReset_link_of_live h]
    rfl

end Sys2Proof.Machine
end

section
/-! PROOFS. The reads of the floor, the answers, the standings, the houses and the boards: what each view carries, in the
forms of R196. -/

namespace Sys2Proof.Machine

/-! ### Forms -/

theorem formCode?_eq_getD (x : Option Byte) : formCode? x = [x.getD 0xFF] := by cases x <;> rfl

theorem sentOr_one_some (n : Nat) : sentOr 1 (some n) = [BitVec.ofNat 8 n] := form1_eq n

theorem formScore?_eq_sentScore (x : Option Int) : formScore? x = sentScore x := by cases x <;> rfl

theorem formSource_eq_sentSource (x : Source) : formSource x = sentSource x := by
  cases x with
  | console line => rfl
  | handset id receiver => rw [formSource, form1_eq]; rfl

theorem formName_eq (name : List Byte) : formName name = BitVec.ofNat 8 name.length :: sentCharacters name := by
  rw [formName, form1_eq]
  rfl

/-! ### READ FLOOR (R112) -/

theorem formSource?_eq (x : Option Holder) : formSource? (x.map Holder.source) =
    (x.map fun h => sentSource h.source).getD [0xFF, 0xFF, 0xFF] := by
  cases x with
  | none => rfl
  | some h => exact formSource_eq_sentSource h.source

theorem State.claimView_eq (s : State) : s.claimView = floorEntry s := by
  funext q
  rw [State.claimView, floorEntry, form1_eq, form1_eq, form1_eq, formSource_eq_sentSource]
  simp only [List.append_assoc]
  rfl

theorem State.deadline_eq_settleDeadline (s : State) : s.deadline = settleDeadline s := by
  unfold State.deadline settleDeadline
  by_cases h : s.live = true ∧ s.context.kind = .buzz ∧ s.context.holder = none
  · have hstands : (s.liveKind .buzz && decide (s.context.holder = none)) = true := by
      simpa [State.liveKind, and_assoc] using h
    refine (if_pos hstands).trans (Eq.trans ?_ (if_pos h).symm)
    cases s.arbiter.queue <;> rfl
  · have hstands : ¬(s.liveKind .buzz && decide (s.context.holder = none)) = true := by
      simpa [State.liveKind, and_assoc] using h
    exact (if_neg hstands).trans (if_neg h).symm

/-- The 24 locks that are sent, whatever the length of the stored list. -/
theorem take_padded_locks (l : List (Option LockReason)) :
    (l ++ List.replicate teamCount none).take teamCount = (List.range 24).map fun i => l.getD i none := by
  refine List.ext_getElem? fun i => ?_
  rw [List.getElem?_map, List.getElem?_take, List.getElem?_append, teamCount]
  by_cases hi : i < 24
  · rw [if_pos hi, List.getElem?_range hi, Option.map_some, List.getD_eq_getElem?_getD]
    split
    next hlt => rw [List.getElem?_eq_getElem hlt]; rfl
    next hge =>
      rw [List.getElem?_replicate, if_pos (by omega), List.getElem?_eq_none (by omega : l.length ≤ i)]
      rfl
  · rw [if_neg hi, List.getElem?_eq_none (by simpa using hi)]
    rfl

theorem lockReason_bits (x : Option LockReason) :
    (x.map (fun r : LockReason => r.bits.toNat)).getD 0 = lockBits x := by
  rcases x with _ | _ | _ | _ <;> rfl

theorem formLocks_eq (c : Context) : formLocks c.locks =
    bytesOf 6 ((List.range 24).foldl (fun n i => n * 4 + lockBits (c.lockOf (i + 1))) 0) := by
  rw [formLocks, take_padded_locks, List.foldl_map]
  simp only [lockReason_bits]
  rfl

theorem carryReadFloor_eq (s : State) : carryReadFloor s = s.done (floorReply s) := by
  unfold carryReadFloor State.holderView floorReply
  simp only [form1_eq, BitVec.ofNat_toNat, BitVec.setWidth_eq, form1?_eq_sentOr, form2?_eq_sentOr, form3?_eq_sentOr, formSource?_eq, State.claimView_eq,
    State.deadline_eq_settleDeadline, formLocks_eq, List.append_assoc, List.cons_append, List.nil_append]

/-! ### READ ANSWERS (R131) -/

theorem Collector.isCounted_iff (x : Collector) : x.isCounted = true ↔ x.tallyState = .counted ∨ x.tallyState = .keyed := by
  simp [Collector.isCounted]

theorem Collector.guestsTaken_eq (x : Collector) : x.guestsTaken = ((x.table.drop 192).filterMap id).length := by
  rw [List.length_filterMap_eq_countP]
  rfl

theorem Collector.about_eq (x : Collector) :
    form1? (x.about.bind TableRound.optionsShown) ++ formCode? (x.about.bind x.keyShown) = answersAbout x := by
  unfold answersAbout
  cases x.about with
  | none => rfl
  | some a =>
    show form1? a.optionsShown ++ formCode? (x.keyShown a) = _
    rw [TableRound.optionsShown, Collector.keyShown]
    cases hkind : a.kind <;> simp [hkind, form1?, form1_eq, formCode?]

theorem Collector.tallyView_eq (x : Collector) : x.tallyView = answersCounted x := by
  have hempty : formList [] = [0] := by rw [formList, form1_eq]; rfl
  unfold Collector.tallyView answersCounted
  cases x.tally with
  | none => simp only [hempty]; rfl
  | some y =>
    by_cases h : x.tallyState = .counted ∨ x.tallyState = .keyed
    · have hpercents : (y.percents.map form1).flatten = y.percents.map (BitVec.ofNat 8) := by
        rw [List.map_congr_left fun n _ => form1_eq n]
        exact List.map_eq_flatMap.symm
      dsimp only
      rw [if_pos h, if_pos (x.isCounted_iff.mpr h), formList, formList, List.length_map, List.length_map, form1_eq, form1_eq, hpercents]
      simp only [List.append_assoc]
      rfl
    · dsimp only
      rw [if_neg h, if_neg (mt x.isCounted_iff.mp h), hempty]
      rfl

theorem Collector.summary_eq (x : Collector) : x.summary = answersSummary x := by
  have hcounts : x.counts.bytes = ([x.counts.recorded, x.counts.changed, x.counts.ignored, x.counts.paused, x.counts.early,
      x.counts.late, x.counts.audienceFull].map (bytesOf 2)).flatten := by
    simp [AnswerCounts.bytes, form2]
  unfold Collector.summary answersSummary
  rw [x.tallyView_eq, hcounts, x.guestsTaken_eq, form1?_eq_sentOr, formCode?_eq_getD, ← x.about_eq, form1_eq, formBool_eq_sentMark]
  simp only [List.append_assoc]
  rfl

theorem Collector.entries_eq (x : Collector) {ps : List Nat} (h : ∀ p ∈ ps, (x.entryAt p).isSome = true) :
    ps.filterMap (fun p => (x.entryAt p).map fun e => e.view p) = ps.map (answersEntry x) := by
  refine (List.filterMap_congr (g := fun p => some (answersEntry x p)) fun p hp => ?_).trans (congrFun List.filterMap_eq_map' ps)
  obtain ⟨e, he⟩ := Option.isSome_iff_exists.mp (h p hp)
  have hget : x.table.getD p none = some e := he
  rw [he, answersEntry, hget]
  simp only [Option.map_some, AnswerEntry.view, form1_eq, form1?_eq_sentOr]
  rfl

theorem Collector.entriesView_eq (x : Collector) (start : Nat) : x.entriesView start = answersEntries x start := by
  have hsome : ∀ p ∈ (x.occupiedFrom start).take 5, (x.entryAt p).isSome = true := fun p hp => by
    have hmem := List.mem_of_mem_take hp
    rw [Collector.occupiedFrom, List.mem_filter, Bool.and_eq_true] at hmem
    obtain ⟨_, _, hp⟩ := hmem
    exact hp
  have hmore : (x.occupiedFrom start).drop 5 = [] ↔ (x.occupiedFrom start).length ≤ 5 := List.drop_eq_nil_iff
  have hps : (List.range x.table.length).filter (fun p => start ≤ p && (x.table.getD p none).isSome) = x.occupiedFrom start := rfl
  unfold Collector.entriesView answersEntries
  dsimp only
  rw [hps, x.entries_eq hsome, formList, List.length_map, List.length_take, form1_eq, form1_eq]
  by_cases h : (x.occupiedFrom start).length ≤ 5
  · rw [if_pos h, if_pos (hmore.mpr h)]
  · rw [if_neg h, if_neg (mt hmore.mp h)]

theorem Collector.teamView_eq (x : Collector) : x.teamView = answersTeam x := by
  funext t
  have hcounted : (if x.isCounted then x.tally.bind fun y => y.members.getD (t - 1) none else none) =
      if x.tallyState = .counted ∨ x.tallyState = .keyed then x.tally.bind fun y => y.members.getD (t - 1) none else none := by
    simp only [x.isCounted_iff]
  unfold Collector.teamView answersTeam
  rw [hcounted, form1?_eq_sentOr, form1?_eq_sentOr, form2?_eq_sentOr]
  cases x.about <;> rfl

/-! ### READ STANDINGS and READ HOUSES (R151, R163) -/

theorem Standings.teamView_eq (x : Standings) (t : Nat) : x.teamView t = standingsTeam x t := by
  unfold Standings.teamView standingsTeam
  simp only [formName_eq, form1_eq, form1?_eq_sentOr, formBool_eq_sentMark, List.append_assoc, List.cons_append, List.nil_append]
  rfl

theorem Standings.orderView_eq (x : Standings) : x.orderView = standingsPlace x := by
  funext p
  unfold Standings.orderView standingsPlace Standings.teamAtPosition
  cases teamNumbers.find? fun t => decide (x.position t = some p) with
  | none => rfl
  | some t =>
    dsimp only
    rw [form1_eq, form1?_eq_sentOr, formBool_eq_sentMark]
    rfl

theorem Standings.summary_eq (x : Standings) : x.summary =
    [BitVec.ofNat 8 x.playingCount] ++ bytesOf 3 x.counter ++ [if x.frozen then 1 else 0, x.tie.code] := by
  rw [Standings.summary, form1_eq]
  simp only [List.append_assoc]
  rfl

theorem Standings.members_eq_housePlayers (x : Standings) (h : Nat) : x.members h = housePlayers x h := by
  rw [Standings.members, Standings.playingTeams, List.filter_filter, housePlayers]
  refine List.filter_congr fun t ht => ?_
  have hteam : isTeamNumber t = true := (isTeamNumber_iff t).mpr ((mem_teamNumbers_iff t).mp ht)
  rw [Standings.isPlaying, hteam, Bool.true_and, Bool.and_comm]

theorem Standings.houseView_eq (x : Standings) : x.houseView = houseRecord x := by
  funext h
  unfold Standings.houseView houseRecord
  simp only [formName_eq, form1_eq, form1?_eq_sentOr, formBool_eq_sentMark, x.members_eq_housePlayers, List.append_assoc,
    List.cons_append, List.nil_append]
  rfl

theorem Standings.previewView_eq (x : Standings) : x.previewView = housePreview x := by
  funext h
  rw [Standings.previewView, Standings.houseSum, Standings.houseSum, x.members_eq_housePlayers]
  rfl

/-! ### READ BOARD (R178) -/

theorem formLine_eq_sentLine : formLine = sentLine := by
  funext x
  cases x with
  | none => rfl
  | some l => rw [formLine, form1_eq]; rfl

theorem Image.bytes_eq_sentImage (m : Image) : m.bytes = sentImage m := by
  cases m with
  | team m =>
    show m.bytes = _
    rw [TeamImage.bytes, formScore?_eq_sentScore, form1?_eq_sentOr, formBool_eq_sentMark]
    rfl
  | leader m =>
    show m.bytes = _
    rw [LeaderImage.bytes, formLine_eq_sentLine, form2?_eq_sentOr, form1?_eq_sentOr]
    rfl

theorem absentImage_eq (a : Nat) : absentImage a = sentAbsentImage a := by
  unfold absentImage sentAbsentImage
  rw [formLine_eq_sentLine.symm]
  split <;> rfl

theorem State.boardSummary_eq (s : State) : s.boardSummary = boardSummaryReply s := by
  unfold State.boardSummary boardSummaryReply
  by_cases h : s.board.state = .revealing
  · simp only [if_pos h, form1?_eq_sentOr, form1_eq, sentOr_one_some, formBool_eq_sentMark, List.append_assoc, List.cons_append,
      List.nil_append]
    rfl
  · simp only [if_neg h, form1?_eq_sentOr, form1_eq, formBool_eq_sentMark, List.append_assoc, List.cons_append, List.nil_append]
    rfl

theorem State.panelView_eq (s : State) (a : Nat) : s.panelView a = boardPanelReply s a := by
  have hlines : (s.board.lineHeld.map formBool).flatten = s.board.lineHeld.map sentMark := List.map_eq_flatMap.symm
  unfold State.panelView boardPanelReply
  dsimp only
  rw [hlines, Image.bytes_eq_sentImage, formBool_eq_sentMark, formBool_eq_sentMark, form2?_eq_sentOr]
  cases (s.board.panelAt a).shown with
  | none => simp only [absentImage_eq, List.append_assoc, List.cons_append, List.nil_append]; rfl
  | some m => simp only [Image.bytes_eq_sentImage, List.append_assoc, List.cons_append, List.nil_append]; rfl

/-! ### The views and their arguments -/

theorem halfOf_of_half {a : Byte} (h : a = 1 ∨ a = 2) :
    halfOf a = some ((List.range 12).map fun i => if a = 1 then i + 1 else i + 13) := by
  rcases h with rfl | rfl <;> rfl

theorem halfOf_of_out {a : Byte} (h : ¬(a = 1 ∨ a = 2)) : halfOf a = none := by
  rw [not_or] at h
  rw [halfOf, if_neg h.1, if_neg h.2]

theorem carryReadAnswers_outOfRange {v a : Byte} (s : State) (h : ¬((v = 0 ∧ a = 0) ∨ v = 1 ∨ (v = 2 ∧ (a = 1 ∨ a = 2)))) :
    carryReadAnswers v a s = s.refuse .outOfRange := by
  rw [not_or, not_or, not_and, not_and] at h
  obtain ⟨hsummary, hentries, hteams⟩ := h
  unfold carryReadAnswers
  by_cases h0 : v = 0
  · rw [if_pos h0, if_neg (hsummary h0)]
  · rw [if_neg h0, if_neg hentries]
    by_cases h2 : v = 2
    · rw [if_pos h2, halfOf_of_out (hteams h2)]
    · rw [if_neg h2]

theorem carryReadStandings_outOfRange {v a : Byte} (s : State)
    (h : ¬((v = 0 ∧ a = 0) ∨ (v = 1 ∧ isTeamNumber a.toNat = true) ∨ (v = 2 ∧ (a = 1 ∨ a = 2)))) :
    carryReadStandings v a s = s.refuse .outOfRange := by
  rw [not_or, not_or, not_and, not_and, not_and] at h
  obtain ⟨hsummary, hteam, horder⟩ := h
  unfold carryReadStandings
  by_cases h0 : v = 0
  · rw [if_pos h0, if_neg (hsummary h0)]
  · rw [if_neg h0]
    by_cases h1 : v = 1
    · rw [if_pos h1, teamOf, if_neg (hteam h1)]
    · rw [if_neg h1]
      by_cases h2 : v = 2
      · rw [if_pos h2, halfOf_of_out (horder h2)]
      · rw [if_neg h2]

theorem carryReadBoard_outOfRange {v a : Byte} (s : State) (h : ¬((v = 0 ∧ a = 0) ∨ (v = 1 ∧ a.toNat ≤ 24))) :
    carryReadBoard v a s = s.refuse .outOfRange := by
  rw [not_or, not_and, not_and] at h
  obtain ⟨hsummary, hpanel⟩ := h
  unfold carryReadBoard
  by_cases h0 : v = 0
  · rw [if_pos h0, if_neg (hsummary h0)]
  · rw [if_neg h0]
    by_cases h1 : v = 1
    · rw [if_pos h1, if_neg (hpanel h1)]
    · rw [if_neg h1]

/-- Settles O57: each view by the form of its values. -/
theorem readsChangeNothing : Obligations.ReadsChangeNothing := by
  intro s
  refine ⟨fun hw => replies_done rfl hw (carryReadFloor_eq s), fun v a hw => ⟨?answersSummary, ?answersEntries, ?answersTeams, ?answersOther⟩,
    fun v a hw => ⟨?standingsSummary, ?standingsTeam, ?standingsOrder, ?standingsOther⟩,
    fun v hw => ⟨?housesRecords, ?housesPoints, ?housesPreview, ?housesOther⟩, fun v a hw => ⟨?boardSummary, ?boardPanel, ?boardOther⟩⟩
  case answersSummary =>
    rintro rfl rfl
    exact replies_done rfl hw (congrArg s.done s.answers.summary_eq)
  case answersEntries =>
    rintro rfl
    exact replies_done rfl hw (congrArg s.done (s.answers.entriesView_eq a.toNat))
  case answersTeams =>
    rintro rfl hhalf
    have hcarry : carryReadAnswers 2 a s =
        s.done ((List.range 12).map fun i => answersTeam s.answers (if a = 1 then i + 1 else i + 13)).flatten := by
      unfold carryReadAnswers
      rw [if_neg (by decide), if_neg (by decide), if_pos rfl, halfOf_of_half hhalf, s.answers.teamView_eq]
      dsimp only
      rw [List.map_map]
      rfl
    exact replies_done rfl hw hcarry
  case answersOther => exact fun h => replies_refuse rfl hw (carryReadAnswers_outOfRange s h)
  case standingsSummary =>
    rintro rfl rfl
    exact replies_done rfl hw (congrArg s.done s.standings.summary_eq)
  case standingsTeam =>
    rintro rfl hteam
    have hcarry : carryReadStandings 1 a s = s.done (standingsTeam s.standings a.toNat) := by
      rw [← s.standings.teamView_eq]
      unfold carryReadStandings
      rw [if_neg (by decide), if_pos rfl, teamOf, if_pos hteam]
    exact replies_done rfl hw hcarry
  case standingsOrder =>
    rintro rfl hhalf
    have hcarry : carryReadStandings 2 a s =
        s.done ((List.range 12).map fun i => standingsPlace s.standings (if a = 1 then i + 1 else i + 13)).flatten := by
      unfold carryReadStandings
      rw [if_neg (by decide), if_neg (by decide), if_pos rfl, halfOf_of_half hhalf, s.standings.orderView_eq]
      dsimp only
      rw [List.map_map]
      rfl
    exact replies_done rfl hw hcarry
  case standingsOther => exact fun h => replies_refuse rfl hw (carryReadStandings_outOfRange s h)
  case housesRecords =>
    rintro rfl
    have hcarry : carryReadHouses 0 s = s.done ((List.range 6).map fun i => houseRecord s.standings (i + 1)).flatten := by
      unfold carryReadHouses
      rw [if_pos rfl, s.standings.houseView_eq, houseNumbers_eq, List.map_map]
      rfl
    exact replies_done rfl hw hcarry
  case housesPoints =>
    rintro rfl
    have hpoints : (s.standings.placePoints.map form1).flatten = s.standings.placePoints.map (BitVec.ofNat 8) := by
      rw [List.map_congr_left fun n _ => form1_eq n]
      exact List.map_eq_flatMap.symm
    exact replies_done rfl hw (congrArg s.done hpoints)
  case housesPreview =>
    rintro rfl
    have hcarry : carryReadHouses 2 s = s.done (((List.range 6).map fun i => housePreview s.standings (i + 1)).flatten
        ++ [if s.standings.frozen then 1 else 0, s.board.state.code]) := by
      unfold carryReadHouses
      rw [if_neg (by decide), if_neg (by decide), if_pos rfl, s.standings.previewView_eq, houseNumbers_eq, List.map_map,
        List.append_assoc]
      rfl
    exact replies_done rfl hw hcarry
  case housesOther =>
    intro h
    have hcarry : carryReadHouses v s = s.refuse .outOfRange := by
      unfold carryReadHouses
      rw [if_neg (by bv_omega), if_neg (by bv_omega), if_neg (by bv_omega)]
    exact replies_refuse rfl hw hcarry
  case boardSummary =>
    rintro rfl rfl
    exact replies_done rfl hw (congrArg s.done s.boardSummary_eq)
  case boardPanel =>
    rintro rfl ha
    have hcarry : carryReadBoard 1 a s = s.done (boardPanelReply s a.toNat) := by
      rw [← s.panelView_eq]
      unfold carryReadBoard
      rw [if_neg (by decide), if_pos rfl, if_pos ha]
    exact replies_done rfl hw hcarry
  case boardOther => exact fun h => replies_refuse rfl hw (carryReadBoard_outOfRange s h)

end Sys2Proof.Machine
end

section
/-! PROOFS. The chain arbiter, the panel check and the winner blink. -/

namespace Sys2Proof.Machine

/-! ### The refresh choice (R168) -/

theorem State.wantsRefresh_eq_false_iff (s : State) (a : Nat) :
    s.wantsRefresh a = false ↔ s.dirty a = false ∨ (s.board.panelAt a).presence = .missing := by
  rw [State.wantsRefresh, Bool.and_eq_false_iff, decide_eq_false_iff_not, not_not]

/-- From any pointer the 25 addresses after it, wrapping, are all of them. -/
theorem State.refreshChoice_eq_none_iff (s : State) : s.refreshChoice = none ↔ ∀ a, a ≤ 24 → s.wantsRefresh a = false := by
  rw [State.refreshChoice, List.find?_eq_none]
  constructor
  · intro h a ha
    have hplace : (s.board.pointer + 1 + (a + 25 - (s.board.pointer + 1) % 25) % 25) % 25 = a := by omega
    have hmem := h a (List.mem_map.mpr ⟨_, List.mem_range.mpr (Nat.mod_lt _ (by decide)), hplace⟩)
    simpa using hmem
  · intro h a ha
    obtain ⟨i, _, rfl⟩ := List.mem_map.mp ha
    rw [h _ (by omega)]
    exact Bool.false_ne_true

theorem State.refreshChoice_eq_some {s : State} {a : Nat} (h : s.refreshChoice = some a) :
    a ≤ 24 ∧ s.wantsRefresh a = true ∧
      ∀ i j, j < i → i < 25 → a = (s.board.pointer + 1 + i) % 25 → s.wantsRefresh ((s.board.pointer + 1 + j) % 25) = false := by
  rw [State.refreshChoice, List.find?_eq_some_iff_getElem] at h
  obtain ⟨hwants, k, hk, hget, hbefore⟩ := h
  rw [List.length_map, List.length_range] at hk
  rw [List.getElem_map, List.getElem_range] at hget
  refine ⟨by omega, hwants, fun i j hj hi ha => ?_⟩
  have hindex : k = i := by omega
  have hskip := hbefore j (by omega)
  rw [List.getElem_map, List.getElem_range] at hskip
  simpa using hskip

theorem Board.mayBegin_iff {b : Board} (hfree : b.chain = .free) (kind : ChainKind) (other : Bool) :
    b.mayBegin kind other = true ↔ other = false ∨ b.lastKind ≠ some kind := by
  simp [Board.mayBegin, hfree]

theorem Board.checkWork_iff (b : Board) : b.checkWork = true ↔ ∃ c, b.check = some c ∧ c.next ≤ 24 := by
  unfold Board.checkWork
  cases b.check with
  | none => simp
  | some c => simp

/-! ### Polls (R170, R171) -/

theorem replyPresence_eq_some {x y z u : Byte} {p : Presence} (h : replyPresence ⟨x, y⟩ z u = some p) :
    x = 0x5B ∧ u = y ^^^ z ∧ z.toNat ≤ 1 := by
  unfold replyPresence at h
  split at h
  · cases h
  next hstart =>
    split at h
    · cases h
    next hcheck =>
      refine ⟨not_not.mp hstart, not_not.mp hcheck, ?_⟩
      split at h
      next h0 => rw [h0]; decide
      · split at h
        next h1 => rw [h1]; decide
        · cases h

theorem exec_panelPollReply_of_poll {s : State} {a w : Nat} {v : Bool} {x y z u : Byte} {p : Presence}
    (hchain : s.board.chain = .poll a w v) (hp : replyPresence ⟨x, y⟩ z u = some p) (ha : y.toNat = a) :
    exec (.panelPollReply ⟨x, y⟩ z u) s = .next (s.completePoll p) := by
  show execPanelPollReply _ _ _ _ = _
  unfold execPanelPollReply
  rw [hchain, hp]
  exact congrArg Host.Outcome.next (if_pos ha)

theorem exec_panelPollTimeout_of_poll {s : State} {a w : Nat} {v : Bool} (hchain : s.board.chain = .poll a w v)
    (hw : 50 ≤ w) : exec .panelPollTimeout s = .next (s.completePoll .missing) := by
  show execPanelPollTimeout _ = _
  unfold execPanelPollTimeout
  rw [hchain]
  exact congrArg Host.Outcome.next (if_pos hw)

/-- A good reply of the address polled, or the end of the wait, completes the poll with that presence. -/
theorem exec_completesPoll {i : Instr} {p : Presence} {a w : Nat} {v : Bool} {s : State}
    (hchain : s.board.chain = .poll a w v) (ha : a ≤ 24)
    (hi : (i = .panelPollReply ⟨0x5B, BitVec.ofNat 8 a⟩ 0 (BitVec.ofNat 8 a) ∧ p = .present) ∨
      (i = .panelPollReply ⟨0x5B, BitVec.ofNat 8 a⟩ 1 (BitVec.ofNat 8 a ^^^ 1) ∧ p = .fault) ∨
      (i = .panelPollTimeout ∧ p = .missing ∧ 50 ≤ w)) : exec i s = .next (s.completePoll p) := by
  have haddress : (BitVec.ofNat 8 a).toNat = a := by rw [BitVec.toNat_ofNat]; omega
  rcases hi with ⟨rfl, rfl⟩ | ⟨rfl, rfl⟩ | ⟨rfl, rfl, hw⟩
  · exact exec_panelPollReply_of_poll hchain (by simp [replyPresence, pollReplyStart]) haddress
  · exact exec_panelPollReply_of_poll hchain (by simp [replyPresence, pollReplyStart]) haddress
  · exact exec_panelPollTimeout_of_poll hchain hw

theorem State.completePoll_of_void {s : State} {a w : Nat} (p : Presence) (hchain : s.board.chain = .poll a w true) :
    s.completePoll p = s.setBoard { s.board with chain := .free, lastKind := some .poll } := by
  unfold State.completePoll
  rw [hchain]

theorem State.completePoll_of_ne {s : State} {a w : Nat} {c : PanelCheck} (p : Presence)
    (hchain : s.board.chain = .poll a w false) (hcheck : s.board.check = some c) (ha : a ≠ 24) :
    s.completePoll p = s.setBoard (s.board.afterPoll a p c) := by
  unfold State.completePoll
  rw [hchain, hcheck]
  exact if_neg ha

theorem State.completePoll_last {s : State} {w : Nat} {c : PanelCheck} (p : Presence)
    (hchain : s.board.chain = .poll 24 w false) (hcheck : s.board.check = some c) :
    s.completePoll p = (s.setBoard { s.board.afterPoll 24 p c with check := none }).raise ((s.board.afterPoll 24 p c).checkEvent
      (if (s.board.panelAt 24).presence = p then c.changed else c.changed + 1)) := by
  unfold State.completePoll
  rw [hchain, hcheck]
  exact if_pos rfl

theorem PanelRecord.polled_eq (r : PanelRecord) (p : Presence) : r.polled p =
    { r with presence := p, shown := if r.presence = .missing ∧ p ≠ .missing then none else r.shown } := by
  simp [PanelRecord.polled]

theorem Board.panelAt_setPanelAt (b : Board) {a : Nat} (r : PanelRecord) (h : a < b.panels.length) (x : Nat) :
    (b.setPanelAt a r).panelAt x = if x = a then r else b.panelAt x := by
  by_cases hx : x = a
  · subst hx
    rw [if_pos rfl, Board.panelAt_setPanelAt_self _ h]
  · rw [if_neg hx, Board.panelAt_setPanelAt_of_ne _ hx]

/-- The panels after a poll: the polled one has its presence, and where it was MISSING and answers no shown image (R171). -/
theorem Board.afterPoll_panelAt {b : Board} {a : Nat} (p : Presence) (c : PanelCheck) (h : a < b.panels.length) (x : Nat) :
    (b.afterPoll a p c).panelAt x = if x = a then
      { b.panelAt a with
        presence := p, shown := if (b.panelAt a).presence = .missing ∧ p ≠ .missing then none else (b.panelAt a).shown }
      else b.panelAt x := by
  rw [← PanelRecord.polled_eq]
  exact b.panelAt_setPanelAt _ h x

/-! ### The chain taken up and given back (R168, R169) -/

theorem exec_refreshSendBegin_of_free {s : State} {a : Nat} (hfree : s.board.chain = .free) (hchoice : s.refreshChoice = some a) :
    exec .refreshSendBegin s = .next (if s.board.checkWork = false ∨ s.board.lastKind ≠ some .refresh then
      s.setBoard { s.board with chain := .refresh a (s.target a) false, pointer := a } else s) := by
  show Host.Outcome.next s.beginRefresh = _
  unfold State.beginRefresh
  rw [hchoice]
  simp only [Board.mayBegin_iff hfree]

theorem exec_refreshSendComplete_of_refresh {s : State} {a : Nat} {m : Image} {v : Bool}
    (hchain : s.board.chain = .refresh a m v) :
    exec .refreshSendComplete s = .next (s.setBoard (if v then { s.board with chain := .free, lastKind := some .refresh }
      else Board.setPanelAt { s.board with chain := .free, lastKind := some .refresh } a { s.board.panelAt a with shown := some m })) := by
  show Host.Outcome.next s.completeRefresh = _
  unfold State.completeRefresh
  rw [hchain]
  rfl

theorem exec_pollBegin_of_free {s : State} {c : PanelCheck} (hcheck : s.board.check = some c) (hnext : c.next ≤ 24)
    (hfree : s.board.chain = .free) (hturn : s.refreshChoice = none ∨ s.board.lastKind ≠ some .poll) :
    exec .pollBegin s = .next (s.setBoard { s.board with chain := .poll c.next 0 false }) := by
  have hwork : s.board.checkWork = true := s.board.checkWork_iff.mpr ⟨c, hcheck, hnext⟩
  have hmay : s.board.mayBegin .poll s.refreshChoice.isSome = true := by
    rw [Board.mayBegin_iff hfree, Option.isSome_eq_false_iff, Option.isNone_iff_eq_none]
    exact hturn
  show Host.Outcome.next s.beginPoll = _
  unfold State.beginPoll
  rw [hcheck]
  exact congrArg Host.Outcome.next (if_pos (by rw [hwork, hmay]; rfl))

/-- What is not a good reply of the address polled is discarded (R170). -/
theorem exec_panelPollReply_of_not_good {x y z u : Byte} {s : State}
    (h : ∀ a w v, s.board.chain = .poll a w v → x ≠ 0x5B ∨ y.toNat ≠ a ∨ u ≠ y ^^^ z ∨ 1 < z.toNat) :
    exec (.panelPollReply ⟨x, y⟩ z u) s = .next s := by
  show execPanelPollReply _ _ _ _ = _
  unfold execPanelPollReply
  cases hchain : s.board.chain with
  | free => rfl
  | refresh a m v => rfl
  | poll a w v =>
    cases hp : replyPresence ⟨x, y⟩ z u with
    | none => rfl
    | some p =>
      obtain ⟨hstart, hcheck, hstatus⟩ := replyPresence_eq_some hp
      refine congrArg Host.Outcome.next (if_neg fun ha => ?_)
      rcases h a w v hchain with hx | hy | hu | hz
      · exact hx hstart
      · exact hy ha
      · exact hu hcheck
      · exact Nat.not_lt.mpr hstatus hz

/-- A poll that completes outside a show reset (R170, R171). -/
theorem completePoll_serves {s : State} {a w : Nat} {c : PanelCheck} (p : Presence) (hchain : s.board.chain = .poll a w false)
    (hcheck : s.board.check = some c) (hlen : s.board.panels.length = 25) (ha : a ≤ 24) :
    ∃ t, s.completePoll p = t ∧ t.board.chain = .free ∧ t.board.lastKind = some .poll ∧
      (∀ x, t.board.panelAt x = if x = a then
        { s.board.panelAt a with
          presence := p
          shown := if (s.board.panelAt a).presence = .missing ∧ p ≠ .missing then none
            else (s.board.panelAt a).shown } else s.board.panelAt x) ∧
      (a ≠ 24 → t.board.check =
        some ⟨c.next + 1, if (s.board.panelAt a).presence = p then c.changed else c.changed + 1⟩ ∧ t.link = s.link) ∧
      (a = 24 → t.board.check = none ∧ ∃ f : Presence → Nat,
        (∀ x, f x = (List.range 25).countP fun n => (t.board.panelAt n).presence = x) ∧
        Tells s t [⟨none, .checkComplete ((List.range 25).map fun n => (t.board.panelAt n).presence) (f .present)
          (f .fault) (f .missing)
          (if (s.board.panelAt a).presence = p then c.changed else c.changed + 1)⟩]) ∧
      t.board =
        { s.board with
          chain := .free, lastKind := some .poll, panels := t.board.panels, check := t.board.check } ∧
      t = (s.setBoard t.board).setLink t.link ∧
      t.standings = s.standings ∧ t.engine = s.engine ∧ t.list = s.list := by
  have hpanels : ∀ x, (s.board.afterPoll a p c).panelAt x = _ := Board.afterPoll_panelAt p c (by omega)
  by_cases hlast : a = 24
  · subst hlast
    exact ⟨_, s.completePoll_last p hchain hcheck, rfl, rfl, hpanels, fun h => absurd rfl h,
      fun _ => ⟨rfl, (s.board.afterPoll 24 p c).countPresence, fun _ => rfl, rfl⟩, rfl, rfl, rfl, rfl, rfl⟩
  · exact ⟨_, s.completePoll_of_ne p hchain hcheck hlast, rfl, rfl, hpanels, fun _ => ⟨rfl, rfl⟩,
      fun h => absurd h hlast, rfl, rfl, rfl, rfl, rfl⟩

/-! ### The winner blink (R172) -/

theorem exec_winnerBlinkEnd {n : Nat} {s : State} (hn : isTeamNumber n = true) : exec (.winnerBlinkEnd n) s = .next
    (if (s.board.panelAt n).blinkLeft = 0 then
      s.setBoard { s.board with panels := s.board.panels.set n { s.board.panelAt n with blinkOpen := false } } else s) := by
  show Host.Outcome.next (if (isTeamNumber n && (s.board.panelAt n).blinkLeft = 0) = true then _ else s) = _
  rw [hn, Bool.true_and]
  simp only [decide_eq_true_eq]
  rfl

theorem State.liveTeamImage_eq {n : Nat} {s : State} (hn : isTeamNumber n = true) : s.liveTeamImage n =
    ⟨if (s.standings.teamAt n).playing = true then some (s.standings.teamAt n).score else none,
      if (s.standings.teamAt n).playing = true then s.standings.rank n else none, 0 < (s.board.panelAt n).blinkLeft⟩ := by
  rw [State.liveTeamImage, Standings.isPlaying, hn, Bool.true_and]
  split <;> rfl

/-- Settles O59: the arbiter, the refresh, the poll and the check in turn. -/
theorem thePanelChainServesThePanels : Obligations.ThePanelChainServesThePanels := by
  refine ⟨fun a s => ⟨decide_eq_true_iff, rfl⟩, Board.checkWork_iff, fun s => ?choiceNone, fun a s hfree hchoice => ⟨?begin, ?wait⟩,
    fun a s h => ?choiceSome, fun a m s hlen ha hchain => ?complete, fun a m s hchain => exec_refreshSendComplete_of_refresh hchain,
    fun c s hcheck hnext hfree hturn => exec_pollBegin_of_free hcheck hnext hfree hturn,
    fun i p a w c s hchain hcheck hlen ha hi => ?poll, fun i a w s hchain ha hi => ?void,
    fun x y z u s h => exec_panelPollReply_of_not_good h, fun s hw => ⟨fun h => ?busy, fun h => ?check⟩,
    fun n s hn => ⟨fun h => ?blinkEnd, fun h => ?blinkOn, State.liveTeamImage_eq hn⟩⟩
  case choiceNone =>
    rw [s.refreshChoice_eq_none_iff]
    exact forall₂_congr fun a _ => s.wantsRefresh_eq_false_iff a
  case begin => exact fun h => by rw [exec_refreshSendBegin_of_free hfree hchoice, if_pos h]
  case wait =>
    intro hwork hlast
    rw [exec_refreshSendBegin_of_free hfree hchoice, if_neg (by simp [hwork, hlast])]
  case choiceSome =>
    obtain ⟨ha, hwants, hbefore⟩ := State.refreshChoice_eq_some h
    rw [State.wantsRefresh, Bool.and_eq_true] at hwants
    obtain ⟨hdirty, hpresence⟩ := hwants
    exact ⟨ha, hdirty, of_decide_eq_true hpresence,
      fun i j hj hi hplace => (s.wantsRefresh_eq_false_iff _).mp (hbefore i j hj hi hplace)⟩
  case complete =>
    refine ⟨_, exec_refreshSendComplete_of_refresh hchain, rfl, rfl, fun x => ?_, rfl, rfl, rfl, rfl⟩
    exact Board.panelAt_setPanelAt _ _ (show a < s.board.panels.length by omega) x
  case poll =>
    obtain ⟨t, ht, hserved⟩ := completePoll_serves p hchain hcheck hlen ha
    exact ⟨t, by rw [exec_completesPoll hchain ha hi, ht], hserved⟩
  case void =>
    have hcompletes : ∃ p, exec i s = .next (s.completePoll p) := by
      rcases hi with hi | hi | ⟨hi, hw⟩
      · exact ⟨.present, exec_completesPoll hchain ha (.inl ⟨hi, rfl⟩)⟩
      · exact ⟨.fault, exec_completesPoll hchain ha (.inr (.inl ⟨hi, rfl⟩))⟩
      · exact ⟨.missing, exec_completesPoll hchain ha (.inr (.inr ⟨hi, rfl, hw⟩))⟩
    obtain ⟨p, hp⟩ := hcompletes
    rw [hp, State.completePoll_of_void p hchain]
  case busy => exact replies_refuse rfl hw (if_pos (Option.isSome_iff_ne_none.mpr h))
  case check => exact replies_of_carry rfl hw (if_neg (by rw [h]; exact Bool.false_ne_true))
  case blinkEnd => rw [exec_winnerBlinkEnd hn, if_pos h]
  case blinkOn => rw [exec_winnerBlinkEnd hn, if_neg h]

end Sys2Proof.Machine
end

section
/-! PROOFS. The 1 ms tick, and the timer rows that follow the seconds and the answer time left. -/

namespace Sys2Proof.Machine

/-! ### One ms of the engine (R25, R26, R31, R32, R35) -/

theorem State.engineTicked_clock (s : State) : s.engineTicked.clock =
    if s.live = true ∧ s.engine.state ≠ .paused then min 1048575 (s.engine.clock + 1) else s.engine.clock := by
  have hruns : s.engine.state.clockRuns = true ↔ s.live = true ∧ s.engine.state ≠ .paused := by
    rw [EngineState.clockRuns, Bool.and_eq_true, decide_eq_true_iff]
    rfl
  simp only [State.engineTicked, hruns]

theorem State.timersTicked_eq (s : State) (c : Context) : s.timersTicked c =
    { c with
      readingLeft := if s.engine.state = .reading then c.readingLeft - 1 else c.readingLeft
      roundLeft := if s.engine.state = .opened ∨ (s.engine.state = .settling ∧ c.timeCalled = false) then
        c.roundLeft.map (· - 1) else c.roundLeft
      answerLeft := if s.engine.state = .floor then c.answerLeft.map (· - 1) else c.answerLeft } := by
  unfold State.timersTicked
  cases s.engine.state
  case settling =>
    dsimp only
    rcases Bool.eq_false_or_eq_true c.timeCalled with hcalled | hcalled
    · have hstands : ¬(EngineState.settling = .opened ∨ (EngineState.settling = .settling ∧ c.timeCalled = false)) := by
        simp [hcalled]
      rw [if_neg hstands]
      exact if_pos hcalled
    · simp [hcalled]
  all_goals simp

/-! ### One ms of a console line (R52, R56) -/

/-- A sample of a line, as its level compares with the one before. -/
theorem LineRecord.sample_eq (r : LineRecord) (high : Bool) (now : RunStart) :
    (r.sample high now).level = (if high = (r.polarity = .high : Bool) then .pressed else .released) ∧
      (r.sample high now).state = r.state ∧ (r.sample high now).runStart = r.runStart ∧
      (r.fresh = true ∨ (r.sample high now).level ≠ r.level →
        (r.sample high now).runLength = 1 ∧ (r.sample high now).newRun = some now) ∧
      (r.fresh = false → (r.sample high now).level = r.level → (r.sample high now).newRun = r.newRun ∧
        (r.sample high now).runLength = min 65536 (r.runLength + 1)) ∧
      (r.sample high now).count = r.countAfter (r.sample high now).level (r.sample high now).runLength := by
  have hlevel : (r.sample high now).level = r.polarity.read high := rfl
  refine ⟨?_, rfl, rfl, fun h => ?_, fun hfresh hsame => ?_, rfl⟩
  · rw [hlevel]
    cases hp : r.polarity <;> cases high <;> rfl
  · have hbegins : (r.fresh || decide (r.polarity.read high ≠ r.level)) = true := by
      rw [Bool.or_eq_true, decide_eq_true_iff]
      exact h
    unfold LineRecord.sample
    dsimp only
    rw [hbegins]
    exact ⟨rfl, rfl⟩
  · have hgoes : (r.fresh || decide (r.polarity.read high ≠ r.level)) = false := by
      rw [Bool.or_eq_false_iff, decide_eq_false_iff_not, not_not]
      exact ⟨hfresh, hsame⟩
    unfold LineRecord.sample
    dsimp only
    rw [hgoes]
    exact ⟨rfl, rfl⟩

theorem State.ticked_lineAt {s : State} (levels : BitVec 24) (hlen : s.consoles.records.length = 24) {n : Nat}
    (hn : isTeamNumber n = true) : (s.ticked levels).lineAt n =
      (s.lineAt n).sampled (levels.getLsbD (n - 1)) (s.setEngine s.engineTicked).runNow := by
  obtain ⟨hlow, hhigh⟩ := (isTeamNumber_iff n).mp hn
  have hindex : n - 1 < s.consoles.records.length := by omega
  have hrecords : (s.ticked levels).consoles.records = s.consoles.records.mapIdx fun i r =>
      r.sampled (levels.getLsbD i) (s.setEngine s.engineTicked).runNow := rfl
  simp [State.lineAt, hrecords, hindex]

theorem Board.ticked_panelAt (b : Board) (a : Nat) :
    b.ticked.panelAt a = { b.panelAt a with blinkLeft := (b.panelAt a).blinkLeft - 1 } := by
  unfold Board.ticked Board.panelAt
  simp only [List.getD_eq_getElem?_getD, List.getElem?_map]
  cases b.panels[a]? <;> rfl

/-- An enabled line is sampled at a tick, with the values of the tick (R51, R52). -/
theorem State.ticked_sample (levels : BitVec 24) (s : State) (hlen : s.consoles.records.length = 24) {n : Nat} {r u : LineRecord} {high : Bool}
    (hn : isTeamNumber n = true) (hr : r = s.lineAt n) (hu : u = (s.ticked levels).lineAt n) (henabled : r.enabled = true)
    (hhigh : high = levels.getLsbD (n - 1)) : u = r.sample high (s.setEngine s.engineTicked).runNow := by
  rw [hu, State.ticked_lineAt levels hlen hn, ← hr, LineRecord.sampled, if_pos henabled, hhigh]

/-! ### The rows of the round timer and the answer timer (R33, R35) -/

theorem State.warns_iff (s : State) (n : Nat) : s.warns n = true ↔
    (n = 10 ∧ 10000 < s.setup.timeLimitMs) ∨ (n = 5 ∧ 5000 < s.setup.timeLimitMs) := by
  simp [State.warns]

theorem State.roundTimerCounts_iff {s : State} {c : Context} (hround : s.engine.round = some c) :
    s.roundTimerCounts = true ↔ s.engine.state = .opened ∨ (s.engine.state = .settling ∧ c.timeCalled = false) := by
  simp [State.roundTimerCounts, State.context_of_some hround]

theorem exec_roundTimerSecond {s : State} {c : Context} {ms : Nat} (hround : s.engine.round = some c) (hleft : c.roundLeft = some ms) :
    exec .roundTimerSecond s = .next (if s.roundTimerCounts = true ∧ 0 < ms ∧ c.lastSecond ≠ some ((ms + 999) / 1000) then
      s.tellSecond ((ms + 999) / 1000) else s) := by
  show Host.Outcome.next _ = _
  rw [State.context_of_some hround, hleft]
  simp only [Bool.and_eq_true, decide_eq_true_iff, and_assoc]
  rfl

theorem exec_answerTimerBlink {s : State} {h : Holder} {ms : Nat} (hfloor : s.engine.state = .floor)
    (hholder : s.context.holder = some h) (hleft : s.context.answerLeft = some ms) : exec .answerTimerBlink s = .next
      (if ms ≤ 5000 then s.setConsoles { s.consoles with floorLamps := s.consoles.floorLamps.set (h.team - 1) .blink } else s) := by
  show Host.Outcome.next _ = _
  rw [hholder, hleft]
  simp only [hfloor, decide_true, Bool.true_and, decide_eq_true_iff]
  rfl

/-- Settles O60: each unit's count of one ms, then the two timer rows. -/
theorem ticksCount : Obligations.TicksCount := by
  refine ⟨fun levels s hlen => ⟨s.ticked levels, rfl, rfl, rfl, s.engineTicked_clock, fun c hc => ?context, fun n hn hoff => ?disabled,
      fun n r u high hn hr hu henabled hhigh => ?sampled, rfl, rfl, rfl, rfl, ?portGap, fun a w v h => ?poll, fun h => ?chain,
      fun n _ => s.board.ticked_panelAt n, rfl, rfl, rfl, ?fifo, ?roster, rfl, rfl, ?intake, rfl, rfl, rfl, rfl, rfl, rfl, rfl⟩,
    fun ms n c s hround hleft hn => ⟨fun hcounts hpos hnew => ?second, fun h => ?noSecond⟩,
    fun h ms s hfloor hholder hleft => ⟨fun hms => ?blink, fun hms => ?noBlink⟩⟩
  case context =>
    have hround : (s.ticked levels).engine.round = some (s.timersTicked c) := by
      show s.engine.round.map s.timersTicked = _
      rw [hc]
      rfl
    rw [State.context_of_some hround, s.timersTicked_eq]
  case disabled =>
    rw [State.ticked_lineAt levels hlen hn, LineRecord.sampled, if_neg (by rw [hoff]; exact Bool.false_ne_true)]
  case sampled =>
    have hsample := State.ticked_sample levels s hlen hn hr hu henabled hhigh
    obtain ⟨hlevel, hstate, hstart, hbegins, hgoes, hcount⟩ := r.sample_eq high (s.setEngine s.engineTicked).runNow
    rw [← hsample] at hlevel hstate hstart hbegins hgoes hcount
    refine ⟨hlevel, hstate, hstart, hbegins, hgoes, ?_⟩
    refine hcount.trans ?_
    unfold LineRecord.countAfter
    cases r.state <;> rfl
  case portGap =>
    show s.intake.ticked.portGap = _
    rw [Intake.ticked]
    split <;> rfl
  case poll =>
    show s.board.chain.ticked = _
    rw [h]
    rfl
  case chain =>
    show s.board.chain.ticked = _
    cases hchain : s.board.chain with
    | poll a w v => exact absurd hchain (h a w v)
    | free => rfl
    | refresh a m v => rfl
  case fifo =>
    show s.intake.ticked.fifo = _
    rw [Intake.ticked]
    split <;> rfl
  case roster =>
    show s.intake.ticked.roster = _
    rw [Intake.ticked]
    split <;> rfl
  case intake =>
    show s.intake.ticked = { s.intake with portGap := s.intake.ticked.portGap }
    rw [Intake.ticked]
    split <;> rfl
  case second =>
    subst hn
    refine ⟨_, _, rfl, rfl, ?_⟩
    rw [exec_roundTimerSecond hround hleft, if_pos ⟨(State.roundTimerCounts_iff hround).mpr hcounts, hpos, hnew⟩, State.tellSecond,
      State.mapContext, hround]
    simp only [s.warns_iff]
    rfl
  case noSecond =>
    subst hn
    have hnot : ¬(s.roundTimerCounts = true ∧ 0 < ms ∧ c.lastSecond ≠ some ((ms + 999) / 1000)) := by
      rintro ⟨_, hpos, hnew⟩
      rcases h with h | h
      · exact hnew h
      · omega
    rw [exec_roundTimerSecond hround hleft, if_neg hnot]
  case blink => rw [exec_answerTimerBlink hfloor hholder hleft, if_pos hms]
  case noBlink => rw [exec_answerTimerBlink hfloor hholder hleft, if_neg (Nat.not_le.mpr hms)]

end Sys2Proof.Machine
end

section
/-! PROOFS. The boards: the lines of the leaderboard, holding, revealing and releasing, and the mode. -/

namespace Sys2Proof.Machine

/-! ### Held marks (R165, R173, R175, R176) -/

theorem Board.markAll_panelAt_leader (b : Board) (x : Bool) : (b.markAll x).panelAt 0 = b.panelAt 0 := by
  unfold Board.markAll Board.panelAt
  simp only [List.getD_eq_getElem?_getD, List.getElem?_mapIdx]
  cases b.panels[0]? <;> rfl

theorem Board.markAll_panelAt_team {b : Board} (hlen : b.panels.length = 25) (x : Bool) {n : Nat} (hn : isTeamNumber n = true) :
    (b.markAll x).panelAt n = { b.panelAt n with held := x } := by
  obtain ⟨hlow, hhigh⟩ := (isTeamNumber_iff n).mp hn
  have hindex : n < b.panels.length := by omega
  have hne : n ≠ 0 := by omega
  simp [Board.markAll, Board.panelAt, List.getElem?_eq_getElem hindex, hne]

/-- The lines and the panels of boards that go LIVE: every mark is cleared (R175, R176). -/
theorem Board.goLive_panelAt_leader (b : Board) : b.goLive.panelAt 0 = b.panelAt 0 := b.markAll_panelAt_leader false

theorem Board.goLive_panelAt_team {b : Board} (hlen : b.panels.length = 25) {n : Nat} (hn : isTeamNumber n = true) :
    b.goLive.panelAt n = { b.panelAt n with held := false } := Board.markAll_panelAt_team hlen false hn

/-! ### The live lines (R159, R166) -/

theorem Standings.teamLine_eq (x : Standings) : x.teamLine = liveLine x .teams := rfl

theorem Standings.houseLine_eq (x : Standings) : x.houseLine = liveLine x .houses := by
  have hfind : ∀ k, (houseNumbers.find? fun h => decide (x.houseOrder h = some k)) =
      houseNumbers.find? fun h => (x.houseAt h).shown && decide (1 + housesAhead x h = k) := fun k => by
    congr 1
    funext h
    cases hshown : (x.houseAt h).shown with
    | false => simp [Standings.houseOrder, hshown]
    | true => simp [Standings.houseOrder_of_shown hshown]
  funext k
  rw [Standings.houseLine, hfind]
  rfl

theorem Standings.lines_eq (x : Standings) (m : BoardMode) : x.lines m = (List.range 8).map fun i => liveLine x m (i + 1) := by
  cases m with
  | teams => rfl
  | houses =>
    rw [Standings.lines, x.houseLine_eq, lineNumbers, List.map_map]
    rfl

theorem getD_map_range {α : Type} (f : Nat → α) (d : α) {n i : Nat} (h : i < n) : ((List.range n).map f).getD i d = f i := by
  simp [h]

theorem Standings.lines_getD (x : Standings) (m : BoardMode) {i : Nat} (h : i < 8) : (x.lines m).getD i none = liveLine x m (i + 1) := by
  rw [x.lines_eq, getD_map_range _ _ h]

/-! ### The leaderboard's target (R34, R167) -/

theorem State.leaderTarget_lines (s : State) : s.leaderTarget.lines = (List.range 8).map fun i => s.targetLine (i + 1) := by
  show lineNumbers.map s.targetLine = _
  rw [lineNumbers, List.map_map]
  rfl

theorem State.leaderTarget_line (s : State) {i : Nat} (h : i < 8) : s.leaderTarget.lines[i]? = some (s.targetLine (i + 1)) := by
  rw [s.leaderTarget_lines, List.getElem?_map, List.getElem?_range h]
  rfl

theorem State.targetLine_of_clear {s : State} {i : Nat} (h : i < 8) (hclear : s.board.lineHeld.getD i false = false) :
    s.targetLine (i + 1) = liveLine s.standings s.board.mode (i + 1) := by
  rw [State.targetLine, Nat.add_sub_cancel, hclear, Standings.lines_getD _ _ h]
  rfl

theorem State.targetLine_of_held {s : State} {i : Nat} {x : Snapshot} (hset : s.board.lineHeld.getD i false = true)
    (hx : s.board.snapshot = some x) :
    s.targetLine (i + 1) = (if s.board.mode = .teams then x.teamLines else x.houseLines).getD i none := by
  rw [State.targetLine, Nat.add_sub_cancel, hset, if_pos rfl, Board.held, hx]
  cases s.board.mode <;> rfl

theorem State.teamTarget_eq {s : State} {x : Snapshot} (n : Nat) (hx : s.board.snapshot = some x) : s.teamTarget n =
    if (s.board.panelAt n).held = true then
      ⟨(x.panels.getD (n - 1) (none, none)).1, (x.panels.getD (n - 1) (none, none)).2, false⟩
    else s.liveTeamImage n := by
  rw [State.teamTarget, Board.held, hx]
  rfl

/-- The countdown by the engine's phase (R34, log 13). -/
theorem State.countdown_of_counting {s : State} (h : s.phase ∈ [EngineState.opened, .settling, .floor]) :
    s.countdown = s.context.lastSecond := by
  simp only [List.mem_cons, List.not_mem_nil, or_false] at h
  rcases h with h | h | h <;> rw [State.countdown, h]

theorem State.countdown_of_not_counting {s : State} (h : s.phase ∉ [EngineState.opened, .settling, .floor]) :
    s.countdown = none := by
  unfold State.countdown
  cases hphase : s.phase <;> first | rfl | exact absurd (by rw [hphase]; decide) h

theorem State.countdown_of_paused {s : State} (h : s.engine.state = .paused) : s.countdown =
    if s.engine.remembered ∈ [some EngineState.opened, some .settling, some .floor] then s.context.lastSecond else none := by
  cases hremembered : s.engine.remembered with
  | none =>
    have hphase : s.phase = .paused := by simp [State.phase, h, hremembered]
    rw [State.countdown_of_not_counting (by rw [hphase]; decide), if_neg (by decide)]
  | some x =>
    have hphase : s.phase = x := State.phase_of_paused h hremembered
    by_cases hx : x ∈ [EngineState.opened, .settling, .floor]
    · rw [State.countdown_of_counting (by rwa [hphase]), if_pos (by simpa using hx)]
    · rw [State.countdown_of_not_counting (by rwa [hphase]), if_neg (by simpa using hx)]

/-! ### Holding the boards (R173) -/

/-- The boards as HOLD BOARDS leaves them. -/
def State.heldBoard (s : State) : Board :=
  { s.board.markAll true with state := .held, snapshot := some s.snapshotNow }

theorem carryHoldBoards_of_live {s : State} (h : s.board.state = .live) : carryHoldBoards s =
    ((s.setBoard s.heldBoard).raise (.boardHeld s.standings.playingCount)).done [] := if_pos h

theorem State.snapshotNow_panels {s : State} {n : Nat} (hn : isTeamNumber n = true) :
    s.snapshotNow.panels.getD (n - 1) (none, none) = ((s.liveTeamImage n).score, (s.liveTeamImage n).rank) :=
  getD_map_teamNumbers (fun t => ((s.liveTeamImage t).score, (s.liveTeamImage t).rank)) _ hn

theorem State.snapshotNow_eq (s : State) : s.snapshotNow =
    ⟨(List.range 24).map fun i => ((s.liveTeamImage (i + 1)).score, (s.liveTeamImage (i + 1)).rank),
      (List.range 8).map fun i => liveLine s.standings .teams (i + 1),
      (List.range 8).map fun i => liveLine s.standings .houses (i + 1)⟩ := by
  rw [State.snapshotNow, s.standings.lines_eq, s.standings.lines_eq, teamNumbers, List.map_map]
  rfl

/-- With every line held from now, the leaderboard shows the lines as they stand (R167, R173). -/
theorem leaderTarget_of_heldBoard {s t : State} (hboard : t.board = s.heldBoard) :
    t.leaderTarget.lines = s.standings.lines s.board.mode := by
  rw [t.leaderTarget_lines, s.standings.lines_eq]
  refine List.map_congr_left fun i hi => ?_
  have hi := List.mem_range.mp hi
  have hset : t.board.lineHeld.getD i false = true := by
    rw [hboard]
    exact List.getD_replicate _ hi
  have hsnapshot : t.board.snapshot = some s.snapshotNow := by rw [hboard]; rfl
  have hmode : t.board.mode = s.board.mode := by rw [hboard]; rfl
  rw [State.targetLine_of_held hset hsnapshot, hmode, s.snapshotNow_eq]
  cases s.board.mode <;> exact getD_map_range _ _ hi

/-! ### A reveal step (R175) -/

theorem Standings.position_isTeamNumber {x : Standings} {n p : Nat} (h : x.position n = some p) : isTeamNumber n = true :=
  ((x.mem_playingTeams_iff n).mp (Standings.mem_of_position h).1).1

/-- One team has a position (R145). -/
theorem Standings.position_unique {x : Standings} {n m p : Nat} (hn : x.position n = some p) (hm : x.position m = some p) :
    n = m := by
  obtain ⟨hnMem, hnAhead⟩ := Standings.mem_of_position hn
  obtain ⟨hmMem, hmAhead⟩ := Standings.mem_of_position hm
  exact Standings.ahead_injective hnMem hmMem (by omega)

theorem Standings.teamAtPosition_eq_some_iff (x : Standings) (p n : Nat) :
    x.teamAtPosition p = some n ↔ x.position n = some p := by
  have hsome : ∀ m, x.teamAtPosition p = some m → x.position m = some p := fun m h =>
    of_decide_eq_true (List.find?_some (p := fun t => decide (x.position t = some p)) h)
  refine ⟨hsome n, fun h => ?_⟩
  have hmem : n ∈ teamNumbers := (mem_teamNumbers_iff n).mpr ((isTeamNumber_iff n).mp (Standings.position_isTeamNumber h))
  cases hfind : x.teamAtPosition p with
  | none => exact absurd h (by simpa using List.find?_eq_none.mp hfind n hmem)
  | some m => rw [Standings.position_unique (hsome m hfind) h]

theorem State.releaseAtCursor_board (s : State) : s.releaseAtCursor.board =
    { s.board with
      panels := s.releaseAtCursor.board.panels
      lineHeld := if s.board.cursor ≤ 8 then s.board.lineHeld.set (s.board.cursor - 1) false else s.board.lineHeld } := by
  unfold State.releaseAtCursor
  cases s.standings.teamAtPosition s.board.cursor <;> by_cases hc : s.board.cursor ≤ 8 <;>
    simp [hc, Board.setPanelAt]

theorem State.releaseAtCursor_panels (s : State) : s.releaseAtCursor.board.panels =
    ((s.standings.teamAtPosition s.board.cursor).map fun t =>
      s.board.panels.set t { s.board.panelAt t with held := false }).getD s.board.panels := by
  unfold State.releaseAtCursor
  cases s.standings.teamAtPosition s.board.cursor <;> by_cases hc : s.board.cursor ≤ 8 <;>
    simp [hc, Board.setPanelAt]

theorem State.releaseAtCursor_panelAt {s : State} (hlen : s.board.panels.length = 25) (n : Nat) :
    s.releaseAtCursor.board.panelAt n =
      if s.standings.position n = some s.board.cursor then { s.board.panelAt n with held := false } else s.board.panelAt n := by
  have hpanels : s.releaseAtCursor.board.panelAt n = (s.releaseAtCursor.board.panels).getD n ⟨none, .missing, false, 0, false⟩ := rfl
  rw [hpanels, s.releaseAtCursor_panels]
  cases hfind : s.standings.teamAtPosition s.board.cursor with
  | none =>
    have hnone : ¬s.standings.position n = some s.board.cursor := fun h => by
      rw [← Standings.teamAtPosition_eq_some_iff, hfind] at h
      cases h
    rw [if_neg hnone]
    rfl
  | some m =>
    have hm := (Standings.teamAtPosition_eq_some_iff _ _ _).mp hfind
    have hteam := (isTeamNumber_iff m).mp (Standings.position_isTeamNumber hm)
    have hset := s.board.panelAt_setPanelAt { s.board.panelAt m with held := false } (a := m) (by omega) n
    by_cases hn : n = m
    · subst hn
      rw [if_pos rfl] at hset
      rw [if_pos hm]
      exact hset
    · rw [if_neg hn] at hset
      rw [if_neg fun h => hn (Standings.position_unique h hm)]
      exact hset

theorem State.releaseAtCursor_panels_length (s : State) : s.releaseAtCursor.board.panels.length = s.board.panels.length := by
  rw [s.releaseAtCursor_panels]
  cases s.standings.teamAtPosition s.board.cursor with
  | none => rfl
  | some t => exact List.length_set

theorem State.releaseAtCursor_leader {s : State} (hlen : s.board.panels.length = 25) :
    s.releaseAtCursor.board.panelAt 0 = s.board.panelAt 0 := by
  rw [State.releaseAtCursor_panelAt hlen, if_neg fun h => absurd (Standings.position_isTeamNumber h) (by decide)]

theorem State.reveal_last {s : State} (h : s.board.cursor = 1) : s.reveal =
    ((s.releaseAtCursor.raise s.revealEvent).setBoard s.releaseAtCursor.board.goLive).raise .revealComplete := if_pos h

theorem State.reveal_next {s : State} (h : s.board.cursor ≠ 1) : s.reveal =
    (s.releaseAtCursor.raise s.revealEvent).setBoard
      { s.releaseAtCursor.board with
        cursor := s.releaseAtCursor.board.cursor - 1, revealLeft := s.releaseAtCursor.board.interval } := if_neg h

theorem exec_revealStep (s : State) : exec .revealStep s =
    .next (if s.board.state = .revealing ∧ s.board.revealLeft = 0 then s.reveal else s) := by
  show Host.Outcome.next (if (decide (s.board.state = .revealing) && decide (s.board.revealLeft = 0)) = true then _ else s) = _
  simp only [Bool.and_eq_true, decide_eq_true_iff]

/-- A reveal step that is due (R175). -/
theorem reveal_serves {s : State} (hlines : s.board.lineHeld.length = 8) (hlen : s.board.panels.length = 25)
    (hstate : s.board.state = .revealing) :
      (1 < s.board.cursor →
        (∀ n, isTeamNumber n = true → s.reveal.board.panelAt n =
          if s.standings.position n = some s.board.cursor then { s.board.panelAt n with held := false }
          else s.board.panelAt n) ∧
        (∀ k, k < 8 → s.reveal.board.lineHeld.getD k false =
          if k + 1 = s.board.cursor then false else s.board.lineHeld.getD k false) ∧
        s.reveal.board.state = .revealing ∧
        s.reveal.board =
          { s.board with
            panels := s.reveal.board.panels, lineHeld := s.reveal.board.lineHeld
            cursor := s.board.cursor - 1, revealLeft := s.board.interval }) ∧
      (s.board.cursor = 1 →
        s.reveal.board =
          { s.board with
            state := .live, panels := s.reveal.board.panels, lineHeld := List.replicate 8 false, snapshot := none
            revealLeft := 0 } ∧
        (∀ n, isTeamNumber n = true → s.reveal.board.panelAt n = { s.board.panelAt n with held := false })) ∧
      s.reveal.board.panelAt 0 = s.board.panelAt 0 := by
  have hboard := s.releaseAtCursor_board
  refine ⟨fun hc => ?_, fun hc => ?_, ?_⟩
  · have hreveal : s.reveal.board = { s.releaseAtCursor.board with
        cursor := s.releaseAtCursor.board.cursor - 1, revealLeft := s.releaseAtCursor.board.interval } := by
      rw [State.reveal_next (by omega)]
      rfl
    have hpanels : s.reveal.board.panels = s.releaseAtCursor.board.panels := by rw [hreveal]
    have hheld : s.reveal.board.lineHeld =
        if s.board.cursor ≤ 8 then s.board.lineHeld.set (s.board.cursor - 1) false else s.board.lineHeld := by rw [hreveal, hboard]
    refine ⟨fun n _ => ?_, fun k hk => ?_, by rw [hreveal, hboard]; exact hstate, ?_⟩
    · rw [← State.releaseAtCursor_panelAt hlen n, Board.panelAt, hpanels]
      rfl
    · rw [hheld, apply_ite (fun l : List Bool => l.getD k false)]
      by_cases hk1 : k + 1 = s.board.cursor
      · have hindex : s.board.cursor - 1 = k := by omega
        rw [if_pos (by omega), if_pos hk1, hindex]
        simp [hlines, hk]
      · have hindex : s.board.cursor - 1 ≠ k := by omega
        rw [if_neg hk1, List.getD_eq_getElem?_getD, List.getElem?_set_ne hindex, ← List.getD_eq_getElem?_getD, ite_self]
    · rw [hpanels, hheld, hreveal, hboard]
  · have hreveal : s.reveal.board = s.releaseAtCursor.board.goLive := by
      rw [State.reveal_last hc]
      rfl
    refine ⟨?_, fun n hn => ?_⟩
    · rw [hreveal, Board.goLive, Board.markAll, hboard]
    · rw [hreveal, Board.goLive_panelAt_team (by rw [s.releaseAtCursor_panels_length, hlen]) hn, State.releaseAtCursor_panelAt hlen]
      split <;> rfl
  · by_cases hc : s.board.cursor = 1
    · rw [State.reveal_last hc]
      exact (Board.goLive_panelAt_leader _).trans (State.releaseAtCursor_leader hlen)
    · rw [State.reveal_next hc]
      exact State.releaseAtCursor_leader hlen

/-- A reveal step tells what it released, and at the end that the reveal is complete (R175, R179). -/
theorem reveal_tells (s : State) : Tells s s.reveal
    (⟨none, .revealStep s.board.cursor (s.standings.teamAtPosition s.board.cursor)
        (if s.board.cursor ≤ 8 then some s.board.cursor else none)⟩ ::
      if s.board.cursor = 1 then [⟨none, .revealComplete⟩] else []) := by
  by_cases hc : s.board.cursor = 1
  · rw [State.reveal_last hc, if_pos hc]
    rfl
  · rw [State.reveal_next hc, if_neg hc]
    rfl

/-- A step that changes the boards and tells events changes nothing else. -/
theorem State.raise_of_boards {s u : State} (h : u = (s.setBoard u.board).setLink u.link) (e : Event) :
    u.raise e = (s.setBoard (u.raise e).board).setLink (u.raise e).link := by
  show u.setLink (u.link.note _) = (s.setBoard u.board).setLink (u.link.note _)
  generalize u.link.note _ = l
  rw [h]
  rfl

theorem State.setBoard_of_boards {s u : State} (h : u = (s.setBoard u.board).setLink u.link) (b : Board) :
    u.setBoard b = (s.setBoard b).setLink u.link := by
  rw [h]
  rfl

theorem reveal_units (s : State) : s.reveal = (s.setBoard s.reveal.board).setLink s.reveal.link := by
  have hrelease : s.releaseAtCursor = (s.setBoard s.releaseAtCursor.board).setLink s.releaseAtCursor.link := rfl
  have htold := State.raise_of_boards hrelease s.revealEvent
  by_cases hc : s.board.cursor = 1
  · rw [State.reveal_last hc]
    exact State.raise_of_boards (State.setBoard_of_boards htold s.releaseAtCursor.board.goLive) .revealComplete
  · rw [State.reveal_next hc]
    exact State.setBoard_of_boards htold _

/-! ### The mode (R177) -/

theorem BoardMode.ofCode_of_high {b : Byte} (h : 1 < b.toNat) : BoardMode.ofCode b = none := by
  rw [BoardMode.ofCode, if_neg (by bv_omega), if_neg (by bv_omega)]

theorem BoardMode.ofCode_of_low {b : Byte} (h : b.toNat ≤ 1) :
    BoardMode.ofCode b = some (if b = 0 then .teams else .houses) := by
  by_cases h0 : b = 0
  · rw [BoardMode.ofCode, if_pos h0, if_pos h0]
  · rw [BoardMode.ofCode, if_neg h0, if_neg h0, if_pos (by bv_omega)]

/-- Settles O58: the commands of the boards in turn, then the leaderboard's target line by line. -/
theorem boardsAreHeldRevealedAndReleased : Obligations.BoardsAreHeldRevealedAndReleased := by
  refine ⟨fun s hw => ⟨fun h => replies_refuse rfl hw (if_neg h), fun h hlen => ?hold⟩,
    fun b s hw => ⟨fun h => replies_refuse rfl hw (if_neg h), fun h n hn => ?reveal⟩,
    fun s hstate hleft hlines hlen => ?step, fun s h => ?notDue,
    fun s hw => ⟨fun h => replies_done rfl hw (if_pos h), fun h hlen => ?release⟩,
    fun b s hw => ⟨fun h => ?modeOut, fun h => ?mode⟩, Standings.lines_eq, fun s => ?target⟩
  case hold =>
    refine ⟨_, replies_done rfl hw (carryHoldBoards_of_live h), rfl, rfl, ?_, s.board.markAll_panelAt_leader true, rfl,
      fun n hn => Board.markAll_panelAt_team hlen true hn, fun n hn => ?_, ?_, rfl, rfl, rfl, rfl⟩
    · rw [← s.snapshotNow_eq]
      rfl
    · have hheld : (((s.setBoard s.heldBoard).raise (.boardHeld s.standings.playingCount)).board.panelAt n).held = true := by
        show ((s.board.markAll true).panelAt n).held = true
        rw [Board.markAll_panelAt_team hlen true hn]
      rw [State.teamTarget_eq n (x := s.snapshotNow) rfl, if_pos hheld, State.snapshotNow_panels hn]
    · rw [← leaderTarget_of_heldBoard (s := s) (t := (s.setBoard s.heldBoard).raise (.boardHeld s.standings.playingCount)) rfl]
      rfl
  case reveal =>
    subst hn
    refine replies_of_carry rfl hw ?_
    unfold carryRevealBoards
    rw [if_pos h]
    dsimp only
    rw [form1_eq]
    rfl
  case step =>
    obtain ⟨hnext, hlast, hleader⟩ := reveal_serves hlines hlen hstate
    have hunits := reveal_units s
    refine ⟨s.reveal, by rw [exec_revealStep, if_pos ⟨hstate, hleft⟩], fun hc => ?_, fun hc => ?_,
      ⟨_, rfl, reveal_tells s⟩, hleader, hunits, by rw [hunits]; rfl, by rw [hunits]; rfl, by rw [hunits]; rfl⟩
    · obtain ⟨hpanels, hheld, hrevealing, hboard⟩ := hnext hc
      exact ⟨hpanels, hheld, hrevealing, by rw [hboard], by rw [hboard], by rw [hboard], hboard⟩
    · obtain ⟨hboard, hpanels⟩ := hlast hc
      exact ⟨by rw [hboard], by rw [hboard], by rw [hboard], hboard, hpanels⟩
  case notDue =>
    rw [exec_revealStep, if_neg fun hdue => h.elim (fun hn => hn hdue.1) fun hn => hn hdue.2]
  case release =>
    exact ⟨(s.setBoard s.board.goLive).raise (.boardReleased s.board.state), replies_done rfl hw (if_neg h), rfl, rfl, rfl, rfl, s.board.goLive_panelAt_leader, rfl,
      fun n hn => Board.goLive_panelAt_team hlen hn, rfl, rfl, rfl⟩
  case modeOut =>
    refine replies_refuse rfl hw ?_
    rw [carrySetLeaderboardMode, BoardMode.ofCode_of_high h]
  case mode =>
    refine replies_done rfl hw ?_
    rw [carrySetLeaderboardMode, BoardMode.ofCode_of_low h]
  case target =>
    refine ⟨rfl, by rw [s.leaderTarget_lines, List.length_map, List.length_range], fun i hi => ⟨fun hclear => ?_, fun x hset hx => ?_⟩,
      fun x n hx _ => State.teamTarget_eq n hx, rfl, fun h => ?_, State.countdown_of_paused, fun h => ?_⟩
    · rw [State.leaderTarget_line s hi, State.targetLine_of_clear hi hclear]
    · rw [State.leaderTarget_line s hi, State.targetLine_of_held hset hx]
    · have hne : s.engine.state ≠ .paused := by rintro hp; rw [hp] at h; exact absurd h (by decide)
      exact State.countdown_of_counting (by rwa [State.phase_of_ne_paused hne])
    · have hne : s.engine.state ≠ .paused := by rintro hp; rw [hp] at h; exact absurd h (by decide)
      refine State.countdown_of_not_counting ?_
      rw [State.phase_of_ne_paused hne]
      cases hs : s.engine.state <;> simp_all

end Sys2Proof.Machine
end
